-- ==== Sys2Proof/Word.lean ====
section
/-! DEFINITION. The word types of the block's ports and fields (00_scope.md R7). -/

namespace Sys2Proof

/-- An unsigned 8-bit value: a bus byte, a BCD operand, a Time field (R7). -/
abbrev Byte := BitVec 8

/-- A 16-bit value: a year (read as two's complement) or a coordinate (R7). -/
abbrev Word16 := BitVec 16

/-- A 32-bit value: an operand or result port, a frequency, a duration (R7, R29, R30). -/
abbrev Word32 := BitVec 32

end Sys2Proof
end

