-- ==== Sys2Proof/Syntax.lean ====
section
/-! DEFINITION. Commands, operand records and the 18 operations of the block (10_state.md R24, R25, R29;
30_encoding.md R81, R82, R85). -/

namespace Sys2Proof

/-- A Time: three unsigned 8-bit fields, no range enforced (R24). -/
structure Time where
  hours : Byte
  minutes : Byte
  seconds : Byte
deriving DecidableEq, Repr, Inhabited

/-- A Date: `day`, `month`, `weekday` unsigned 8-bit, `year` signed 16-bit, no range enforced (R25). -/
structure Date where
  day : Byte
  month : Byte
  weekday : Byte
  year : Word16
deriving DecidableEq, Repr, Inhabited

/-- Layout `R3`: three raw register bytes in bus order (R81). -/
structure Buf3 where
  b0 : Byte
  b1 : Byte
  b2 : Byte
deriving DecidableEq, Repr, Inhabited

/-- Layout `R4`: four raw register bytes in bus order (R81). -/
structure Buf4 where
  b0 : Byte
  b1 : Byte
  b2 : Byte
  b3 : Byte
deriving DecidableEq, Repr, Inhabited

/-- The bytes of a buffer in bus order. -/
def Buf3.bytes (b : Buf3) : List Byte := [b.b0, b.b1, b.b2]

/-- The bytes of a buffer in bus order. -/
def Buf4.bytes (b : Buf4) : List Byte := [b.b0, b.b1, b.b2, b.b3]

/-- Layout `F`: a ToneRequest (R27, R81). -/
structure ToneRequest where
  freqHz : Word32
  durationMs : Word32
deriving DecidableEq, Repr, Inhabited

/-- A command: the operation select and the two operand ports (R29, R80). -/
structure Command where
  op : Byte
  a : Word32
  b : Word32
deriving DecidableEq, Repr, Inhabited

/-- The 18 operations of R82, each with the operands its format names (R81). -/
inductive Instr where
  | bcdDec (v : Byte)
  | bcdEnc (v : Byte)
  | rtcTunpk (buf : Buf3)
  | rtcTpack (t : Time)
  | rtcDunpk (buf : Buf4)
  | rtcDpack (d : Date)
  | rtcGett
  | rtcSett (t : Time)
  | rtcGetd
  | rtcSetd (d : Date)
  | tchNorm (buf : Buf4)
  | tchPoll
  | tchPoint (n : Byte)
  | toneCalc (q : ToneRequest)
  | tonePlay (q : ToneRequest)
  | edClick
  | edEdit (delta : Byte)
  | edTick
deriving DecidableEq, Repr, Inhabited

/-- The mnemonic of an operation (R82, R85). -/
def Instr.mnemonic : Instr → String
  | .bcdDec _ => "BCD.DEC"
  | .bcdEnc _ => "BCD.ENC"
  | .rtcTunpk _ => "RTC.TUNPK"
  | .rtcTpack _ => "RTC.TPACK"
  | .rtcDunpk _ => "RTC.DUNPK"
  | .rtcDpack _ => "RTC.DPACK"
  | .rtcGett => "RTC.GETT"
  | .rtcSett _ => "RTC.SETT"
  | .rtcGetd => "RTC.GETD"
  | .rtcSetd _ => "RTC.SETD"
  | .tchNorm _ => "TCH.NORM"
  | .tchPoll => "TCH.POLL"
  | .tchPoint _ => "TCH.POINT"
  | .toneCalc _ => "TONE.CALC"
  | .tonePlay _ => "TONE.PLAY"
  | .edClick => "ED.CLICK"
  | .edEdit _ => "ED.EDIT"
  | .edTick => "ED.TICK"

/-- The operands of an operation as R85 writes them, in its order: a Time hours first, a Date day, weekday,
month, year; `year` and `delta` signed, every other operand unsigned. With `Instr.mnemonic` this is the
assembler line of R85; its text form is notation only (log 27). -/
def Instr.operands : Instr → List Int
  | .bcdDec v => [v.toNat]
  | .bcdEnc v => [v.toNat]
  | .rtcTunpk buf => [buf.b0.toNat, buf.b1.toNat, buf.b2.toNat]
  | .rtcTpack t => [t.hours.toNat, t.minutes.toNat, t.seconds.toNat]
  | .rtcDunpk buf => [buf.b0.toNat, buf.b1.toNat, buf.b2.toNat, buf.b3.toNat]
  | .rtcDpack d => [d.day.toNat, d.weekday.toNat, d.month.toNat, d.year.toInt]
  | .rtcGett => []
  | .rtcSett t => [t.hours.toNat, t.minutes.toNat, t.seconds.toNat]
  | .rtcGetd => []
  | .rtcSetd d => [d.day.toNat, d.weekday.toNat, d.month.toNat, d.year.toInt]
  | .tchNorm buf => [buf.b0.toNat, buf.b1.toNat, buf.b2.toNat, buf.b3.toNat]
  | .tchPoll => []
  | .tchPoint n => [n.toNat]
  | .toneCalc q => [q.freqHz.toNat, q.durationMs.toNat]
  | .tonePlay q => [q.freqHz.toNat, q.durationMs.toNat]
  | .edClick => []
  | .edEdit delta => [delta.toInt]
  | .edTick => []

end Sys2Proof
end

