-- ==== Sys2Proof/WellFormed.lean ====
section
/-! DEFINITION. Which operand values are legal (30_encoding.md R84). The types of `Instr` already bound every
operand to its width, so the one check left is the one operand with an illegal range. -/

namespace Sys2Proof

/-- R84: "The one operand with an illegal range is `n` of `TCH.POINT`"; every other operand value is legal.
An ill-formed instruction still encodes, decodes and runs: it raises BadPointIndex (R148, log 26). -/
def Instr.wellFormed : Instr → Bool
  | .bcdDec _ => true
  | .bcdEnc _ => true
  | .rtcTunpk _ => true
  | .rtcTpack _ => true
  | .rtcDunpk _ => true
  | .rtcDpack _ => true
  | .rtcGett => true
  | .rtcSett _ => true
  | .rtcGetd => true
  | .rtcSetd _ => true
  | .tchNorm _ => true
  | .tchPoll => true
  | .tchPoint n => decide (n.toNat ≤ 3)
  | .toneCalc _ => true
  | .tonePlay _ => true
  | .edClick => true
  | .edEdit _ => true
  | .edTick => true

end Sys2Proof
end

