-- ==== Sys2Proof/Decode.lean ====
section
/-! DEFINITION. Decoding a command into an operation and encoding it back (30_encoding.md R80 to R84), and the
numbering of spec/opcode_table.json. -/

namespace Sys2Proof

/-! ### Operand layouts (R81): bits a layout does not name are ignored -/

/-- Byte `i` of an operand port, byte 0 in bits 7:0 (R58(d), R81). -/
def portByte (i : Nat) (w : Word32) : Byte := w.extractLsb' (8 * i) 8

/-- Layout `R3` (R81). -/
def layoutR3 (a : Word32) : Buf3 :=
  { b0 := portByte 0 a, b1 := portByte 1 a, b2 := portByte 2 a }

/-- Layout `R4` (R81). -/
def layoutR4 (a : Word32) : Buf4 :=
  { b0 := portByte 0 a, b1 := portByte 1 a, b2 := portByte 2 a, b3 := portByte 3 a }

/-- Layout `T`: seconds in `a[7:0]`, minutes in `a[15:8]`, hours in `a[23:16]` (R81). -/
def layoutT (a : Word32) : Time :=
  { seconds := portByte 0 a, minutes := portByte 1 a, hours := portByte 2 a }

/-- Layout `D`: day, weekday, month from `a[7:0]` up, year in `b[15:0]` (R81). -/
def layoutD (a b : Word32) : Date :=
  { day := portByte 0 a, weekday := portByte 1 a, month := portByte 2 a, year := b.extractLsb' 0 16 }

/-- Layout `F`: the frequency on `a`, the duration on `b` (R81). -/
def layoutF (a b : Word32) : ToneRequest := { freqHz := a, durationMs := b }

/-! ### The decoder (R82, R83) -/

/-- Why a command does not decode: its `op` is not in R82 (R83). -/
inductive Reject where
  | illegalOp (op : Byte)
deriving DecidableEq, Repr

/-- The decoder: `op` is compared with the 18 values of R82 and no other bit takes part. -/
def decode (c : Command) : Except Reject Instr :=
  match c.op.toNat with
  | 0x01 => .ok (.bcdDec (portByte 0 c.a))
  | 0x02 => .ok (.bcdEnc (portByte 0 c.a))
  | 0x10 => .ok (.rtcTunpk (layoutR3 c.a))
  | 0x11 => .ok (.rtcTpack (layoutT c.a))
  | 0x12 => .ok (.rtcDunpk (layoutR4 c.a))
  | 0x13 => .ok (.rtcDpack (layoutD c.a c.b))
  | 0x14 => .ok .rtcGett
  | 0x15 => .ok (.rtcSett (layoutT c.a))
  | 0x16 => .ok .rtcGetd
  | 0x17 => .ok (.rtcSetd (layoutD c.a c.b))
  | 0x20 => .ok (.tchNorm (layoutR4 c.a))
  | 0x21 => .ok .tchPoll
  | 0x22 => .ok (.tchPoint (portByte 0 c.a))
  | 0x30 => .ok (.toneCalc (layoutF c.a c.b))
  | 0x31 => .ok (.tonePlay (layoutF c.a c.b))
  | 0x40 => .ok .edClick
  | 0x41 => .ok (.edEdit (portByte 0 c.a))
  | 0x42 => .ok .edTick
  | _ => .error (.illegalOp c.op)

/-! ### The encoder (R81, R82, R85): unused operand bits are written as zero -/

/-- The opcode of an operation (R82). -/
def opcode : Instr → Byte
  | .bcdDec _ => 0x01
  | .bcdEnc _ => 0x02
  | .rtcTunpk _ => 0x10
  | .rtcTpack _ => 0x11
  | .rtcDunpk _ => 0x12
  | .rtcDpack _ => 0x13
  | .rtcGett => 0x14
  | .rtcSett _ => 0x15
  | .rtcGetd => 0x16
  | .rtcSetd _ => 0x17
  | .tchNorm _ => 0x20
  | .tchPoll => 0x21
  | .tchPoint _ => 0x22
  | .toneCalc _ => 0x30
  | .tonePlay _ => 0x31
  | .edClick => 0x40
  | .edEdit _ => 0x41
  | .edTick => 0x42

/-- Four bytes on a port, the first in bits 7:0 (R58(d), R81). -/
def portBytes (b0 b1 b2 b3 : Byte) : Word32 := b3 ++ b2 ++ b1 ++ b0

/-- What an operation's operands put on port `a` (R81). -/
def operandA : Instr → Word32
  | .bcdDec v => portBytes v 0 0 0
  | .bcdEnc v => portBytes v 0 0 0
  | .rtcTunpk buf => portBytes buf.b0 buf.b1 buf.b2 0
  | .rtcTpack t => portBytes t.seconds t.minutes t.hours 0
  | .rtcDunpk buf => portBytes buf.b0 buf.b1 buf.b2 buf.b3
  | .rtcDpack d => portBytes d.day d.weekday d.month 0
  | .rtcGett => 0
  | .rtcSett t => portBytes t.seconds t.minutes t.hours 0
  | .rtcGetd => 0
  | .rtcSetd d => portBytes d.day d.weekday d.month 0
  | .tchNorm buf => portBytes buf.b0 buf.b1 buf.b2 buf.b3
  | .tchPoll => 0
  | .tchPoint n => portBytes n 0 0 0
  | .toneCalc q => q.freqHz
  | .tonePlay q => q.freqHz
  | .edClick => 0
  | .edEdit delta => portBytes delta 0 0 0
  | .edTick => 0

/-- What an operation's operands put on port `b` (R81). -/
def operandB : Instr → Word32
  | .bcdDec _ => 0
  | .bcdEnc _ => 0
  | .rtcTunpk _ => 0
  | .rtcTpack _ => 0
  | .rtcDunpk _ => 0
  | .rtcDpack d => (0 : Word16) ++ d.year
  | .rtcGett => 0
  | .rtcSett _ => 0
  | .rtcGetd => 0
  | .rtcSetd d => (0 : Word16) ++ d.year
  | .tchNorm _ => 0
  | .tchPoll => 0
  | .tchPoint _ => 0
  | .toneCalc q => q.durationMs
  | .tonePlay q => q.durationMs
  | .edClick => 0
  | .edEdit _ => 0
  | .edTick => 0

/-- The command of an operation (R81, R82, R85). -/
def encode (i : Instr) : Command :=
  { op := opcode i, a := operandA i, b := operandB i }

/-! ### Transcriptions of a command -/

/-- The 72-bit command word `{op, a, b}` of R80, `op` in the most significant bits. -/
def commandWord (c : Command) : BitVec 72 := c.op ++ c.a ++ c.b

/-- The command that a 72-bit command word `{op, a, b}` writes (R80). -/
def commandOfWord (w : BitVec 72) : Command :=
  { op := w.extractLsb' 64 8, a := w.extractLsb' 32 32, b := w.extractLsb' 0 32 }

/-- The command whose bits are numbered as spec/opcode_table.json numbers them: `op` is the first word, in
bits 7:0, then `a` in bits 39:8 and `b` in bits 71:40; every bit from `nbits` up is 0. DESIGN CHOICE (log 3). -/
def commandOfTableWord (nbits w : Nat) : Command :=
  let v := w % 2 ^ nbits
  { op := BitVec.ofNat 8 v, a := BitVec.ofNat 32 (v / 2 ^ 8), b := BitVec.ofNat 32 (v / 2 ^ 40) }

/-- The operation the decoder reads from an instruction whose bits the opcode table numbers as `w`. -/
def decodeTableWord (nbits w : Nat) : Option Instr :=
  match decode (commandOfTableWord nbits w) with
  | .ok i => some i
  | .error _ => none

end Sys2Proof
end

