-- ==== Sys2Proof/Config.lean ====
section
/-! DEFINITION. What the spec leaves OPEN (00_scope.md R6, 10_state.md R28 and R32, 20_memory.md R64,
41_rtc_decoder.md R118, 70_reset_and_hazards.md R242): the configuration inputs, the editor defaults and the
free values. Each is an opaque constant with no body: no proof can use its value. -/

namespace Sys2Proof

/-- The two register-addressed spaces (20_memory.md R50). -/
inductive Space where
  | rtc
  | tch
deriving DecidableEq, Repr, Inhabited

/-- The configuration inputs, constant from reset on (R32). `touchP0Base` is an 8-bit address whose legal
values are those with `TOUCH_P0_BASE + 21 ≤ 255`, that is 0..234. -/
structure ConfigInputs where
  rotation : BitVec 1
  baseClock : Word32
  maxLoopCount : Word32
  touchCountReg : Byte
  touchP0Base : Fin 235
deriving DecidableEq, Repr, Inhabited

/-- One oracle draw: what the environment does at one primitive (R28, R60, R64).
`ok`: whether the primitive succeeds. `changes`: the registers the addressed device has changed by itself
since the last access, in order, as (address, new byte) (R33, R62, R64). `landed`: after a failed `MemWrite`,
bit `i` says that byte `i` reached its register (R53). `PtStop` and `PtStart` use `ok` alone. -/
structure Draw where
  ok : Bool
  changes : List (Byte × Byte)
  landed : BitVec 4
deriving DecidableEq, Repr, Inhabited

/-- ROTATION after reset, OPEN (R6, R32). DESIGN CHOICE: an opaque constant (log 9). -/
opaque Config.rotation : BitVec 1

/-- BASE_CLOCK after reset, OPEN (R6, R32). DESIGN CHOICE: an opaque constant (log 9). -/
opaque Config.baseClock : Word32

/-- MAX_LOOP_COUNT after reset, OPEN (R6, R32). DESIGN CHOICE: an opaque constant (log 9). -/
opaque Config.maxLoopCount : Word32

/-- TOUCH_COUNT_REG after reset, OPEN (R6, R32). DESIGN CHOICE: an opaque constant (log 9). -/
opaque Config.touchCountReg : Byte

/-- TOUCH_P0_BASE after reset, OPEN within the bound of R32. DESIGN CHOICE: an opaque constant (log 9). -/
opaque Config.touchP0Base : Fin 235

/-- EDITOR_DEFAULT_TIME, OPEN (R6, R242). DESIGN CHOICE: an opaque constant (log 10). -/
opaque Config.editorDefaultTime : Time

/-- EDITOR_DEFAULT_DATE, OPEN (R6, R242). DESIGN CHOICE: an opaque constant (log 10). -/
opaque Config.editorDefaultDate : Date

/-- The free value of the oracle: its `k`-th draw, where no reply is lined up (R64, log 4). DESIGN CHOICE. -/
opaque Config.freeDraw : Nat → Draw

/-- The free value NEG_YEAR_BYTE: the fourth date byte of a negative year, at its `k`-th use (R118, log 8).
DESIGN CHOICE. -/
opaque Config.negYearByte : Nat → Byte

/-- The free value of a device register at reset, by space and address (R244, R245, log 5). DESIGN CHOICE. -/
opaque Config.deviceByte : Space → Nat → Byte

end Sys2Proof
end

