-- ==== Sys2Proof/Machine/State.lean ====
section
/-! DEFINITION. The machine's state as plain data, its value after reset, and the reasons a step can stop
(10_state.md R22 to R36, 70_reset_and_hazards.md R240 to R245). -/

namespace Sys2Proof.Machine

/-- MODE, the six editor modes (10_state.md R23). -/
inductive Mode where
  | run
  | editHours
  | editMinutes
  | editDay
  | editMonth
  | editYear
deriving DecidableEq, Repr, Inhabited

/-- TG, the ownership shape of the one pulse-train channel (10_state.md R26). -/
inductive ToneState where
  | idle
  | active
deriving DecidableEq, Repr, Inhabited

/-- The typed errors of 60_exceptions.md R210; none carries information. -/
inductive ErrorCode where
  | busError
  | badPointIndex
  | freqTooLow
  | durationTooLongForFreq
  | stopError
  | txError
  | illegalOp
deriving DecidableEq, Repr

/-- What the result ports carry after an operation: `status = OK` with both results, or an error without
payload (10_state.md R30, R31). -/
inductive Response where
  | ok (r0 r1 : Word32)
  | error (e : ErrorCode)
deriving DecidableEq, Repr

/-- What the environment has lined up for one primitive: an answer, or silence for ever (R216). -/
inductive Reply where
  | answer (d : Draw)
  | silent
deriving DecidableEq, Repr

/-- The pulse parameters of 43_tone_generator.md R163 (10_state.md R27). -/
structure PulseParams where
  high : Word16
  low : Word16
  repeatCount : Word32
deriving DecidableEq, Repr

/-- One primitive the block has issued, with its answer (20_memory.md R52, R53, R60): a failed read answers
no buffer. -/
inductive Access where
  | memRead (sp : Space) (addr n : Nat) (answer : Option (List Byte))
  | memWrite (sp : Space) (addr : Nat) (data : List Byte) (ok : Bool)
  | ptStop (ok : Bool)
  | ptStart (p : PulseParams) (ok : Bool)
deriving DecidableEq, Repr

/-- Why the machine stops. -/
inductive Fault where
  /-- A bus or peripheral primitive of the running operation never answers: the operation has no step
  (60_exceptions.md R216). Raised by the operations that issue a primitive, when the environment's next reply
  is `Reply.silent`. Safe: the model stops where the spec says that nothing follows (log 13). -/
  | noAnswer
deriving DecidableEq, Repr

/-- Why an operation has no meaning. -/
inductive Refusal where
  /-- The operation is not modelled yet; raised by an arm of `exec` alone. Safe: nothing is claimed of it. -/
  | notModelled (mnemonic : String)
deriving DecidableEq, Repr

/-- The state. `mode`, `wt`, `wd`, `tg` are the block's four registers (R22); `cfg` its configuration inputs
(R32); `response` its result ports (R30, R31); `commands` the host's command list (R21, R80); `rtcRegs` and
`tchRegs` the registers of the two devices that are known, by rising address (R50, log 5). The last four
fields are the model's own: `replies` and `draws` the oracle (R64, log 4), `yearDraws` the free bytes drawn
for negative years (R118, log 8), `trace` the primitives issued so far, oldest first (R35, log 14). -/
structure State where
  mode : Mode
  wt : Time
  wd : Date
  tg : ToneState
  cfg : ConfigInputs
  response : Option Response
  commands : List Command
  rtcRegs : List Host.Cell
  tchRegs : List Host.Cell
  replies : List Reply
  draws : Nat
  yearDraws : Nat
  trace : List Access
deriving DecidableEq, Repr

/-- The configuration inputs of the machine, all OPEN (R6, R32, log 9). -/
def configInputs : ConfigInputs :=
  { rotation := Config.rotation
    baseClock := Config.baseClock
    maxLoopCount := Config.maxLoopCount
    touchCountReg := Config.touchCountReg
    touchP0Base := Config.touchP0Base }

/-- The state after reset (70_reset_and_hazards.md R240 to R245): `Run`, the editor defaults, `Idle`, no value
on the result ports, the OPEN configuration inputs; no command presented, no register of a device known, and
no free value drawn yet (log 1, 4, 5, 8 to 12, 14). -/
def State.reset : State :=
  { mode := .run
    wt := Config.editorDefaultTime
    wd := Config.editorDefaultDate
    tg := .idle
    cfg := configInputs
    response := none
    commands := []
    rtcRegs := []
    tchRegs := []
    replies := []
    draws := 0
    yearDraws := 0
    trace := [] }

end Sys2Proof.Machine
end

