-- ==== Sys2Proof/Machine/Ops.lean ====
section
/-! DEFINITION. The named operations over the state: device registers, the oracle, the primitives of
20_memory.md R52, R53 and R60, the end of an operation (60_exceptions.md R214), taking a command and
presenting one (30_encoding.md R80). -/

namespace Sys2Proof.Machine

/-! ### Register lists (R50): the known registers of a device, in one canonical form -/

/-- The canonical form of a register list: addresses strictly rising, each an 8-bit address (R50). An address
that is not listed has no known value (log 5), so no entry can equal what an unlisted address reads as. -/
abbrev Memory.wf (m : List Host.Cell) : Prop :=
  m.Pairwise (fun x y => x.1 < y.1) ∧ ∀ c ∈ m, c.1 < 256

/-- The known value of register `a`, if any. -/
def Memory.get : List Host.Cell → Nat → Option Byte
  | [], _ => none
  | (x, v) :: rest, a => if a = x then some v else Memory.get rest a

/-- Make `v` the known value of register `a`. -/
def Memory.set : List Host.Cell → Nat → Byte → List Host.Cell
  | [], a, v => [(a, v)]
  | (x, w) :: rest, a, v =>
    if a < x then (a, v) :: (x, w) :: rest
    else if a = x then (a, v) :: rest
    else (x, w) :: Memory.set rest a v

/-- Store a burst from register `a` up (R53, R54); byte number `i`, `i + 1`, … of the burst reaches its
register where `lands` says so. -/
def Memory.store (lands : Nat → Bool) : List Byte → Nat → Nat → List Host.Cell → List Host.Cell
  | [], _, _, m => m
  | v :: vs, i, a, m => Memory.store lands vs (i + 1) (a + 1) (if lands i then Memory.set m a v else m)

/-- The device's own register changes, in order (R33, R64). -/
def Memory.change : List (Byte × Byte) → List Host.Cell → List Host.Cell
  | [], m => m
  | (a, v) :: cs, m => Memory.change cs (Memory.set m a.toNat v)

/-- The known registers of a space. -/
def State.regs (sp : Space) (s : State) : List Host.Cell :=
  match sp with
  | .rtc => s.rtcRegs
  | .tch => s.tchRegs

/-- Replace the known registers of a space. -/
def State.setRegs (sp : Space) (m : List Host.Cell) (s : State) : State :=
  { s with
    rtcRegs := match sp with | .rtc => m | .tch => s.rtcRegs
    tchRegs := match sp with | .rtc => s.tchRegs | .tch => m }

/-- What register `a` of a space holds: its known value, or what the device held at reset, a free value
(R244, log 5). -/
def State.deviceByte (sp : Space) (s : State) (a : Nat) : Byte :=
  (Memory.get (s.regs sp) a).getD (Config.deviceByte sp a)

/-- The device of a space changes registers of its own (R33, R64, log 6). -/
def State.deviceActs (sp : Space) (cs : List (Byte × Byte)) (s : State) : State :=
  s.setRegs sp (Memory.change cs (s.regs sp))

/-- Record a primitive as issued (R35, log 14). -/
def State.record (x : Access) (s : State) : State := { s with trace := s.trace ++ [x] }

/-! ### The oracle (R28, R64): one draw for each primitive -/

/-- The next draw: the reply lined up, or a free value; none where the environment stays silent (R216). -/
def takeReply (s : State) : Option (Draw × State) :=
  match s.replies with
  | [] => some (Config.freeDraw s.draws, { s with draws := s.draws + 1 })
  | .answer d :: rest => some (d, { s with replies := rest })
  | .silent :: _ => none

/-! ### The primitives -/

/-- The outcome of a `MemRead`: whether it succeeded, its buffer (`buf i` is what the device answered for
register `addr + i`; it has a meaning only when `ok`), and the state after it (R52). -/
structure ReadAnswer where
  ok : Bool
  buf : Nat → Byte
  after : State

/-- The outcome of a `MemWrite`, `PtStop` or `PtStart`, and the state after it (R53, R60). -/
structure Answer where
  ok : Bool
  after : State

/-- `MemRead(sp:addr, n)` (R52, R54, R62, R64): the device first changes what it changes, then answers each
byte or fails as a whole. -/
def memRead (sp : Space) (addr n : Nat) (s : State) : Option ReadAnswer :=
  match takeReply s with
  | none => none
  | some (d, s1) =>
    let s2 := s1.deviceActs sp d.changes
    let buf := fun i => s2.deviceByte sp (addr + i)
    some
      { ok := d.ok
        buf := buf
        after := s2.record (.memRead sp addr n (if d.ok then some ((List.range n).map buf) else none)) }

/-- `MemWrite(RTC:addr, n, data)` with `n` the length of `data` (R53): the device first changes what it
changes; then all bytes are stored, or, on failure, those that landed (log 7). The block never writes `TCH`. -/
def memWrite (addr : Nat) (data : List Byte) (s : State) : Option Answer :=
  match takeReply s with
  | none => none
  | some (d, s1) =>
    let s2 := s1.deviceActs .rtc d.changes
    let s3 := s2.setRegs .rtc (Memory.store (fun i => d.ok || d.landed.getLsbD i) data 0 addr (s2.regs .rtc))
    some { ok := d.ok, after := s3.record (.memWrite .rtc addr data d.ok) }

/-- `PtStop()` (R60). -/
def ptStop (s : State) : Option Answer :=
  match takeReply s with
  | none => none
  | some (d, s1) => some { ok := d.ok, after := s1.record (.ptStop d.ok) }

/-- `PtStart(high, low, repeat)` (R60). -/
def ptStart (p : PulseParams) (s : State) : Option Answer :=
  match takeReply s with
  | none => none
  | some (d, s1) => some { ok := d.ok, after := s1.record (.ptStart p d.ok) }

/-! ### The end of an operation -/

/-- The operation completes: `status = OK` with its results (R30, R31). -/
def State.complete (r0 r1 : Word32) (s : State) : State := { s with response := some (.ok r0 r1) }

/-- Taking an error, `raise E` (00_scope.md R11, 60_exceptions.md R214): `status` takes the code, the result
ports carry no value, nothing is saved, and the state registers keep what was written up to there. There is no
return operation (R215): the next command is taken as after any other operation. -/
def State.raise (e : ErrorCode) (s : State) : State := { s with response := some (.error e) }

/-- The end of an operation whose only result is its status: OK with zero results, or the error (R81 layout
`-`). -/
def State.finish (ok : Bool) (e : ErrorCode) (s : State) : State :=
  { s with response := if ok then some (.ok 0 0) else some (.error e) }

/-! ### Commands (R21, R80) -/

/-- The host presents command `c` before the commands it has yet to present (log 1). -/
def presentCommand (c : Command) (s : State) : State := { s with commands := c :: s.commands }

/-- The block takes the command presented to it, if there is one (log 1, 2). -/
def fetchCommand (s : State) : Option (Command × State) :=
  match s.commands with
  | [] => none
  | c :: rest => some (c, { s with commands := rest })

/-- A command that does not decode: IllegalOp, and nothing else happens (30_encoding.md R83). -/
def rejectCommand (r : Reject) (s : State) : State :=
  match r with
  | .illegalOp _ => s.raise .illegalOp

end Sys2Proof.Machine
end

