-- ==== Sys2Proof/Machine/Operands.lean ====
section
/-! DEFINITION. The result layouts of 30_encoding.md R81: how each result record is packed on the ports `r0`
and `r1`; bits a layout does not name are zero. The operand layouts stand in Decode.lean. -/

namespace Sys2Proof.Machine

/-- A one-byte value on a 32-bit port, the other bits zero. -/
def packByte (v : Byte) : Word32 := v.setWidth 32

/-- `r0` of layout `R3` (R81). -/
def packR3 (buf : Buf3) : Word32 := portBytes buf.b0 buf.b1 buf.b2 0

/-- `r0` of layout `R4` (R81). -/
def packR4 (buf : Buf4) : Word32 := portBytes buf.b0 buf.b1 buf.b2 buf.b3

/-- `r0` of layout `T`: seconds, minutes, hours from bit 0 up (R81). -/
def packTime (t : Time) : Word32 := portBytes t.seconds t.minutes t.hours 0

/-- `r0` of layout `D`: day, weekday, month from bit 0 up (R81). -/
def packDate (d : Date) : Word32 := portBytes d.day d.weekday d.month 0

/-- `r1` of layout `D`: the year in bits 15:0 (R81). -/
def packYear (d : Date) : Word32 := d.year.setWidth 32

/-- Two 16-bit values on a port, the first in bits 15:0: `r0` of layouts `XY` and `PP` (R81). -/
def packHalves (lo hi : Word16) : Word32 := hi ++ lo

end Sys2Proof.Machine
end

