-- ==== Sys2Proof/Machine/Bcd.lean ====
section
/-! DEFINITION. The BCD codec: BCD.DEC and BCD.ENC (40_bcd_codec.md R100, R101). -/

namespace Sys2Proof.Machine

/-- `bcd_decode` (R100): high nibble times 10 plus low nibble, cut to 8 bits. -/
def bcdDecode (bcd : Byte) : Byte :=
  BitVec.ofNat 8 ((bcd.extractLsb' 4 4).toNat * 10 + (bcd.extractLsb' 0 4).toNat)

/-- The subtraction loop of `bcd_encode` (R101), at most `fuel` turns, from `v` and `tens`. -/
def subtractTens : Nat → Nat → Nat → Nat × Nat
  | 0, v, tens => (v, tens)
  | fuel + 1, v, tens => if v ≥ 10 then subtractTens fuel (v - 10) (tens + 1) else (v, tens)

/-- `bcd_encode` (R101): the tens count shifted left by 4, or the rest, cut to 8 bits (D8, log 15). The loop
runs at most 25 times. -/
def bcdEncode (value : Byte) : Byte :=
  BitVec.ofNat 8 (((subtractTens 25 value.toNat 0).2 <<< 4) ||| (subtractTens 25 value.toNat 0).1)

/-- BCD.DEC (R100). -/
def execBcdDec (v : Byte) (s : State) : Host.Outcome State Fault Refusal :=
  .next (s.complete (packByte (bcdDecode v)) 0)

/-- BCD.ENC (R101). -/
def execBcdEnc (v : Byte) (s : State) : Host.Outcome State Fault Refusal :=
  .next (s.complete (packByte (bcdEncode v)) 0)

end Sys2Proof.Machine
end

