-- ==== Sys2Proof/Machine/Rtc.lean ====
section
/-! DEFINITION. The RTC register decoder: RTC.TUNPK, RTC.TPACK, RTC.DUNPK, RTC.DPACK and the bus operations
RTC.GETT, RTC.SETT, RTC.GETD, RTC.SETD (41_rtc_decoder.md R110 to R128; registers of 20_memory.md R55). -/

namespace Sys2Proof.Machine

/-- The register address of the seconds (00_scope.md R6). -/
def rtcSecReg : Nat := 0x02

/-- The register address of the days (00_scope.md R6). -/
def rtcDayReg : Nat := 0x05

/-- `time_unpack` (R111, R112). -/
def timeUnpack (buf : Buf3) : Time :=
  { seconds := bcdDecode (buf.b0 &&& 0x7F)
    minutes := bcdDecode (buf.b1 &&& 0x7F)
    hours := bcdDecode (buf.b2 &&& 0x3F) }

/-- `time_pack` (R113): no mask on the time registers. -/
def timePack (t : Time) : Buf3 :=
  { b0 := bcdEncode t.seconds, b1 := bcdEncode t.minutes, b2 := bcdEncode t.hours }

/-- The first year of the century that the months register names: flag bit 7 set means the 1900s (R114). -/
def century (months : Byte) : Nat := if months &&& 0x80 ≠ 0 then 1900 else 2000

/-- `date_unpack` (R115, R116). -/
def dateUnpack (buf : Buf4) : Date :=
  { day := bcdDecode (buf.b0 &&& 0x3F)
    weekday := bcdDecode (buf.b1 &&& 0x0F)
    month := bcdDecode (buf.b2 &&& 0x1F)
    year := BitVec.ofNat 16 (century buf.b2 + (bcdDecode buf.b3).toNat) }

/-- The fourth byte of a packed date: `year mod 100` encoded (R117), or the free byte for a negative year
(R118, log 8). -/
def yearByte (year : Word16) (free : Byte) : Byte :=
  if year.toInt < 0 then free else bcdEncode (BitVec.ofNat 8 (year.toInt.toNat % 100))

/-- `date_pack` (R117): each encoded byte masked (D11, log 16), the century bit set for a year below 2000.
`free` is the byte a negative year stores (R118). -/
def datePack (d : Date) (free : Byte) : Buf4 :=
  { b0 := bcdEncode d.day &&& 0x3F
    b1 := bcdEncode d.weekday &&& 0x0F
    b2 := (bcdEncode d.month &&& 0x1F) ||| (if d.year.toInt < 2000 then 0x80 else 0x00)
    b3 := yearByte d.year free }

/-- The free byte the next packing of a negative year takes (R118, log 8). -/
def freeYearByte (s : State) : Byte := Config.negYearByte s.yearDraws

/-- The packing of `d` has taken a free byte, if its year is negative (R118, log 8). -/
def State.packedYear (d : Date) (s : State) : State :=
  { s with yearDraws := if d.year.toInt < 0 then s.yearDraws + 1 else s.yearDraws }

/-- The Time that a successful three-byte read answered. -/
def ReadAnswer.time (r : ReadAnswer) : Time :=
  timeUnpack { b0 := r.buf 0, b1 := r.buf 1, b2 := r.buf 2 }

/-- The Date that a successful four-byte read answered. -/
def ReadAnswer.date (r : ReadAnswer) : Date :=
  dateUnpack { b0 := r.buf 0, b1 := r.buf 1, b2 := r.buf 2, b3 := r.buf 3 }

/-- `MemRead(RTC:0x02, 3)` (R120, 20_memory.md R61). -/
def readTime (s : State) : Option ReadAnswer := memRead .rtc rtcSecReg 3 s

/-- `MemRead(RTC:0x05, 4)` (R124, 20_memory.md R61). -/
def readDate (s : State) : Option ReadAnswer := memRead .rtc rtcDayReg 4 s

/-- `MemWrite(RTC:0x02, 3, time_pack t)` (R122, 20_memory.md R61). -/
def writeTime (t : Time) (s : State) : Option Answer :=
  memWrite rtcSecReg (timePack t).bytes s

/-- `MemWrite(RTC:0x05, 4, date_pack d)` (R126, 20_memory.md R61). -/
def writeDate (d : Date) (s : State) : Option Answer :=
  memWrite rtcDayReg (datePack d (freeYearByte s)).bytes (s.packedYear d)

/-- RTC.TUNPK (R111). -/
def execRtcTunpk (buf : Buf3) (s : State) : Host.Outcome State Fault Refusal :=
  .next (s.complete (packTime (timeUnpack buf)) 0)

/-- RTC.TPACK (R113). -/
def execRtcTpack (t : Time) (s : State) : Host.Outcome State Fault Refusal :=
  .next (s.complete (packR3 (timePack t)) 0)

/-- RTC.DUNPK (R115). -/
def execRtcDunpk (buf : Buf4) (s : State) : Host.Outcome State Fault Refusal :=
  .next (s.complete (packDate (dateUnpack buf)) (packYear (dateUnpack buf)))

/-- RTC.DPACK (R117, R118). -/
def execRtcDpack (d : Date) (s : State) : Host.Outcome State Fault Refusal :=
  .next ((s.packedYear d).complete (packR4 (datePack d (freeYearByte s))) 0)

/-- RTC.GETT (R120). -/
def execRtcGett (s : State) : Host.Outcome State Fault Refusal :=
  match readTime s with
  | none => .fault .noAnswer
  | some r => .next (if r.ok then r.after.complete (packTime r.time) 0 else r.after.raise .busError)

/-- RTC.SETT (R122). -/
def execRtcSett (t : Time) (s : State) : Host.Outcome State Fault Refusal :=
  match writeTime t s with
  | none => .fault .noAnswer
  | some w => .next (w.after.finish w.ok .busError)

/-- RTC.GETD (R124). -/
def execRtcGetd (s : State) : Host.Outcome State Fault Refusal :=
  match readDate s with
  | none => .fault .noAnswer
  | some r =>
    .next (if r.ok then r.after.complete (packDate r.date) (packYear r.date) else r.after.raise .busError)

/-- RTC.SETD (R126). -/
def execRtcSetd (d : Date) (s : State) : Host.Outcome State Fault Refusal :=
  match writeDate d s with
  | none => .fault .noAnswer
  | some w => .next (w.after.finish w.ok .busError)

end Sys2Proof.Machine
end

