-- ==== Sys2Proof/Machine/Editor.lean ====
section
/-! DEFINITION. The editable-field wrap-around state machine: ED.CLICK, ED.EDIT, ED.TICK
(44_editable_clock.md R180 to R192). -/

namespace Sys2Proof.Machine

/-- `wrap`, on mathematical integers (R181): the rule applied once for every delta (R183, D22, log 18). -/
def wrap (current delta ceiling : Int) : Int :=
  if current + delta ≥ ceiling then 0
  else if current + delta < 0 then ceiling - 1
  else current + delta

/-- `wrap` on an unsigned 8-bit field (R182, R186). -/
def wrapByte (field : Byte) (delta ceiling : Int) : Byte :=
  BitVec.ofInt 8 (wrap field.toNat delta ceiling)

/-- `wrap` on the signed 16-bit year (R182, R186). -/
def wrapYear (field : Word16) (delta ceiling : Int) : Word16 :=
  BitVec.ofInt 16 (wrap field.toInt delta ceiling)

/-- The next mode of the click cycle (R184). -/
def nextMode : Mode → Mode
  | .run => .editHours
  | .editHours => .editMinutes
  | .editMinutes => .editDay
  | .editDay => .editMonth
  | .editMonth => .editYear
  | .editYear => .run

/-- The working Time after an edit in a mode (R182, R186). -/
def editTime (m : Mode) (delta : Int) (t : Time) : Time :=
  match m with
  | .run => t
  | .editHours => { t with hours := wrapByte t.hours delta 24 }
  | .editMinutes => { t with minutes := wrapByte t.minutes delta 60 }
  | .editDay => t
  | .editMonth => t
  | .editYear => t

/-- The working Date after an edit in a mode (R182, R186). -/
def editDate (m : Mode) (delta : Int) (d : Date) : Date :=
  match m with
  | .run => d
  | .editHours => d
  | .editMinutes => d
  | .editDay => { d with day := wrapByte d.day delta 31 }
  | .editMonth => { d with month := wrapByte d.month delta 12 }
  | .editYear => { d with year := wrapYear d.year delta 3000 }

/-- The pull half of a tick (R190): the time, then the date; a failed half keeps its working value (D23,
log 19). -/
def pull (s : State) : Host.Outcome State Fault Refusal :=
  match readTime s with
  | none => .fault .noAnswer
  | some r =>
    match readDate { r.after with wt := if r.ok then r.time else r.after.wt } with
    | none => .fault .noAnswer
    | some r' =>
      .next ({ r'.after with wd := if r'.ok then r'.date else r'.after.wd }.finish (r.ok && r'.ok) .busError)

/-- The push half of a tick (R189, R190): the time, then the date, both attempted (D23, log 19). -/
def push (s : State) : Host.Outcome State Fault Refusal :=
  match writeTime s.wt s with
  | none => .fault .noAnswer
  | some w =>
    match writeDate w.after.wd w.after with
    | none => .fault .noAnswer
    | some w' => .next (w'.after.finish (w.ok && w'.ok) .busError)

/-- ED.CLICK (R184). -/
def execEdClick (s : State) : Host.Outcome State Fault Refusal :=
  .next ({ s with mode := nextMode s.mode }.complete 0 0)

/-- ED.EDIT (R186): the field of the current mode, nothing in `Run`. -/
def execEdEdit (delta : Byte) (s : State) : Host.Outcome State Fault Refusal :=
  .next ({ s with
    wt := editTime s.mode delta.toInt s.wt
    wd := editDate s.mode delta.toInt s.wd }.complete 0 0)

/-- ED.TICK (R190): pull in `Run`, push in every edit mode. -/
def execEdTick (s : State) : Host.Outcome State Fault Refusal :=
  match s.mode with
  | .run => pull s
  | .editHours => push s
  | .editMinutes => push s
  | .editDay => push s
  | .editMonth => push s
  | .editYear => push s

end Sys2Proof.Machine
end

