-- ==== Sys2Proof/Machine/Flags.lean ====
section
/-! DEFINITION. The block has no condition codes (10_state.md R30). What it shows instead: the `status` code
(60_exceptions.md R210) and the read-only state ports (10_state.md R23, R26, R36). -/

namespace Sys2Proof.Machine

/-- The code of a typed error (R210). -/
def errorCode : ErrorCode → BitVec 4
  | .busError => 1
  | .badPointIndex => 2
  | .freqTooLow => 3
  | .durationTooLongForFreq => 4
  | .stopError => 5
  | .txError => 6
  | .illegalOp => 7

/-- The `status` port: no value before the first operation completes (R30, R210, R244). -/
def statusPort (s : State) : Option (BitVec 4) :=
  match s.response with
  | none => none
  | some (.ok _ _) => some 0
  | some (.error e) => some (errorCode e)

/-- The ports `r0` and `r1`: a value only when `status = OK` (R31). -/
def resultPorts (s : State) : Option (Word32 × Word32) :=
  match s.response with
  | some (.ok r0 r1) => some (r0, r1)
  | some (.error _) => none
  | none => none

/-- The code of a mode (R23). -/
def modeCode : Mode → BitVec 3
  | .run => 0
  | .editHours => 1
  | .editMinutes => 2
  | .editDay => 3
  | .editMonth => 4
  | .editYear => 5

/-- The code of the tone generator's state (R26). -/
def toneCode : ToneState → BitVec 1
  | .idle => 0
  | .active => 1

/-- `mode_o` (R36). -/
def modePort (s : State) : BitVec 3 := modeCode s.mode

/-- `wt_o`: hours, minutes, seconds from the top (R36). -/
def wtPort (s : State) : BitVec 24 := s.wt.hours ++ s.wt.minutes ++ s.wt.seconds

/-- `wd_o`: year, month, weekday, day from the top (R36). -/
def wdPort (s : State) : BitVec 40 := s.wd.year ++ s.wd.month ++ s.wd.weekday ++ s.wd.day

/-- `tg_o` (R36). -/
def tgPort (s : State) : BitVec 1 := toneCode s.tg

end Sys2Proof.Machine
end

