-- ==== Sys2Proof/Machine/Tone.lean ====
section
/-! DEFINITION. The tone-generator resource state machine: TONE.CALC and TONE.PLAY
(43_tone_generator.md R155 to R168). -/

namespace Sys2Proof.Machine

/-- The outcome of `tone_calc` (R163). -/
inductive ToneCalc where
  | freqTooLow
  | durationTooLongForFreq
  | params (p : PulseParams)
deriving DecidableEq, Repr

/-- Step 1's threshold, `BASE_CLOCK div 65536` (R157). -/
def freqFloor (cfg : ConfigInputs) : Nat := cfg.baseClock.toNat / 65536

/-- Step 2's `wavelength` (R158). -/
def wavelength (cfg : ConfigInputs) (q : ToneRequest) : Nat := cfg.baseClock.toNat / q.freqHz.toNat

/-- Step 3's `repeat_count`, the product on integers (R159). -/
def repeatCount (q : ToneRequest) : Nat := q.durationMs.toNat * q.freqHz.toNat / 1000

/-- The pulse parameters of steps 2 and 3 (R158, R159); by R160 they fit their fields. -/
def pulseParams (cfg : ConfigInputs) (q : ToneRequest) : PulseParams :=
  { high := BitVec.ofNat 16 (wavelength cfg q / 2)
    low := BitVec.ofNat 16 (wavelength cfg q - wavelength cfg q / 2)
    repeatCount := BitVec.ofNat 32 (repeatCount q) }

/-- `tone_calc`: steps 1, 2, 3 in that order (R157, R158, R159, R163). -/
def toneCalc (cfg : ConfigInputs) (q : ToneRequest) : ToneCalc :=
  if q.freqHz.toNat ≤ freqFloor cfg then .freqTooLow
  else if repeatCount q > cfg.maxLoopCount.toNat then .durationTooLongForFreq
  else .params (pulseParams cfg q)

/-- Step 5: `PtStart` on the Idle channel (R162). -/
def transmit (p : PulseParams) (s : State) : Host.Outcome State Fault Refusal :=
  match ptStart p s with
  | none => .fault .noAnswer
  | some w => .next ({ w.after with tg := if w.ok then .active else .idle }.finish w.ok .txError)

/-- Steps 4 and 5: reclaim the channel if it is Active, then transmit (R161, R162). -/
def reclaimAndTransmit (p : PulseParams) (s : State) : Host.Outcome State Fault Refusal :=
  match s.tg with
  | .idle => transmit p s
  | .active =>
    match ptStop s with
    | none => .fault .noAnswer
    | some w =>
      let s1 := { w.after with tg := ToneState.idle }
      if w.ok then transmit p s1 else .next (s1.raise .stopError)

/-- TONE.CALC (R164): the channel is neither read nor written. -/
def execToneCalc (q : ToneRequest) (s : State) : Host.Outcome State Fault Refusal :=
  .next
    (match toneCalc s.cfg q with
    | .freqTooLow => s.raise .freqTooLow
    | .durationTooLongForFreq => s.raise .durationTooLongForFreq
    | .params p => s.complete (packHalves p.high p.low) p.repeatCount)

/-- TONE.PLAY (R165, R166): a rejected request leaves the channel as it is. -/
def execTonePlay (q : ToneRequest) (s : State) : Host.Outcome State Fault Refusal :=
  match toneCalc s.cfg q with
  | .freqTooLow => .next (s.raise .freqTooLow)
  | .durationTooLongForFreq => .next (s.raise .durationTooLongForFreq)
  | .params p => reclaimAndTransmit p s

end Sys2Proof.Machine
end

