-- ==== Sys2Proof/Machine/Touch.lean ====
section
/-! DEFINITION. The touch-point coordinate normalizer: TCH.NORM, TCH.POLL, TCH.POINT
(42_touch_normalizer.md R140 to R149; registers of 20_memory.md R56, R57). -/

namespace Sys2Proof.Machine

/-- One 12-bit coordinate: the low nibble of the first byte above the second (R141). -/
def coordinate (hi lo : Byte) : Word16 :=
  ((hi &&& 0x0F).setWidth 16 <<< 8) ||| lo.setWidth 16

/-- `touch_raw` (R141). -/
def touchRaw (buf : Buf4) : Word16 × Word16 :=
  (coordinate buf.b0 buf.b1, coordinate buf.b2 buf.b3)

/-- `touch_norm` (R142, R143): the axis swap is the only normalisation. -/
def touchNorm (rotation : BitVec 1) (buf : Buf4) : Word16 × Word16 :=
  if rotation ≠ 0 then ((touchRaw buf).2, (touchRaw buf).1) else touchRaw buf

/-- The address of coordinate block `n` (R148, 20_memory.md R56). -/
def touchBlock (cfg : ConfigInputs) (n : Byte) : Nat := cfg.touchP0Base.val + 6 * n.toNat

/-- The number of touches in the count register: its low nibble, unclamped (R146). -/
def touchCount (v : Byte) : Byte := v &&& 0x0F

/-- The coordinates that a successful four-byte read answered. -/
def ReadAnswer.point (cfg : ConfigInputs) (r : ReadAnswer) : Word16 × Word16 :=
  touchNorm cfg.rotation { b0 := r.buf 0, b1 := r.buf 1, b2 := r.buf 2, b3 := r.buf 3 }

/-- `MemRead(TCH:TOUCH_COUNT_REG, 1)` (R146). -/
def readTouchCount (s : State) : Option ReadAnswer := memRead .tch s.cfg.touchCountReg.toNat 1 s

/-- `MemRead(TCH:TOUCH_P0_BASE + 6n, 4)` (R148). -/
def readTouchBlock (n : Byte) (s : State) : Option ReadAnswer := memRead .tch (touchBlock s.cfg n) 4 s

/-- TCH.NORM (R144): no id. -/
def execTchNorm (buf : Buf4) (s : State) : Host.Outcome State Fault Refusal :=
  let p := touchNorm s.cfg.rotation buf
  .next (s.complete (packHalves p.1 p.2) 0)

/-- TCH.POLL (R146). -/
def execTchPoll (s : State) : Host.Outcome State Fault Refusal :=
  match readTouchCount s with
  | none => .fault .noAnswer
  | some r =>
    .next (if r.ok then r.after.complete (packByte (touchCount (r.buf 0))) 0 else r.after.raise .busError)

/-- TCH.POINT (R148): a bad index is found before any bus traffic (D17, log 17). -/
def execTchPoint (n : Byte) (s : State) : Host.Outcome State Fault Refusal :=
  if n.toNat > 3 then .next (s.raise .badPointIndex)
  else
    match readTouchBlock n s with
    | none => .fault .noAnswer
    | some r =>
      let p := r.point s.cfg
      .next (if r.ok then r.after.complete (packHalves p.1 p.2) (packByte n) else r.after.raise .busError)

end Sys2Proof.Machine
end

