-- ==== Sys2Proof/Machine/Dispatch.lean ====
section
/-! DEFINITION. One arm per operation of 30_encoding.md R82. -/

namespace Sys2Proof.Machine

def exec (i : Instr) (s : State) : Host.Outcome State Fault Refusal :=
  match i with
  | .bcdDec v => Sys2Proof.Machine.execBcdDec v s
  | .bcdEnc v => Sys2Proof.Machine.execBcdEnc v s
  | .rtcTunpk buf => Sys2Proof.Machine.execRtcTunpk buf s
  | .rtcTpack t => Sys2Proof.Machine.execRtcTpack t s
  | .rtcDunpk buf => Sys2Proof.Machine.execRtcDunpk buf s
  | .rtcDpack d => Sys2Proof.Machine.execRtcDpack d s
  | .rtcGett => Sys2Proof.Machine.execRtcGett s
  | .rtcSett t => Sys2Proof.Machine.execRtcSett t s
  | .rtcGetd => Sys2Proof.Machine.execRtcGetd s
  | .rtcSetd d => Sys2Proof.Machine.execRtcSetd d s
  | .tchNorm buf => Sys2Proof.Machine.execTchNorm buf s
  | .tchPoll => Sys2Proof.Machine.execTchPoll s
  | .tchPoint n => Sys2Proof.Machine.execTchPoint n s
  | .toneCalc q => Sys2Proof.Machine.execToneCalc q s
  | .tonePlay q => Sys2Proof.Machine.execTonePlay q s
  | .edClick => Sys2Proof.Machine.execEdClick s
  | .edEdit delta => Sys2Proof.Machine.execEdEdit delta s
  | .edTick => Sys2Proof.Machine.execEdTick s

end Sys2Proof.Machine
end

