-- ==== Sys2Proof/Machine/Step.lean ====
section
/-! DEFINITION. One step: the block takes the command presented to it and performs it to completion
(30_encoding.md R80), and how a command is placed for the next step. -/

namespace Sys2Proof.Machine

/-- One command. With no command presented the block waits and nothing changes (log 2); a command that does
not decode raises IllegalOp (R83). -/
def step (s : State) : Host.Outcome State Fault Refusal :=
  match fetchCommand s with
  | none => .next s
  | some (c, s') =>
    match decode c with
    | .ok i => exec i s'
    | .error r => .next (rejectCommand r s')

/-- `s` with the instruction whose bits the opcode table numbers as `w` presented as the next command (log 1,
log 3). -/
def State.withFetchWord (s : State) (nbits w : Nat) : State :=
  presentCommand (commandOfTableWord nbits w) s

end Sys2Proof.Machine
end

