-- ==== Sys2Proof/Safety.lean ====
section
/-! DEFINITION. What counts as a safe run, and the words the claims use: the spec's own formulas on numbers, the
draws a state will take, the quiescent store, and the invariants of the model. -/

namespace Sys2Proof.Machine

/-! ### Numbers -/

/-- The number a packed BCD byte stands for, non-decimal nibbles at their binary value (40_bcd_codec.md R100). -/
def bcdValue (b : Nat) : Nat := b / 16 * 10 + b % 16

/-- The closed form of `bcd_encode` (40_bcd_codec.md R101). -/
def bcdDigits (v : Nat) : Nat := (v / 10 * 16 + v % 10) % 256

/-- Byte `k` of a port, as a number (30_encoding.md R81). -/
def byteOf (k : Nat) (w : Word32) : Nat := w.toNat / 256 ^ k % 256

/-- Four numbers packed on a port, the first in bits 7:0 (30_encoding.md R81). -/
def portOf (n0 n1 n2 n3 : Nat) : Word32 :=
  BitVec.ofNat 32 (n0 + n1 * 2 ^ 8 + n2 * 2 ^ 16 + n3 * 2 ^ 24)

/-! ### The oracle (20_memory.md R64, 60_exceptions.md R216) -/

/-- The next `k` primitives are answered: "every primitive eventually answers" (70_reset_and_hazards.md R260). -/
abbrev State.answers (k : Nat) (s : State) : Prop := ∀ r ∈ s.replies.take k, r ≠ Reply.silent

/-- The draw that the `k`-th next primitive takes: a reply lined up, or a free value. -/
def State.drawAt (k : Nat) (s : State) : Draw :=
  match s.replies[k]? with
  | some (.answer d) => d
  | some .silent => Config.freeDraw (s.draws + (k - s.replies.length))
  | none => Config.freeDraw (s.draws + (k - s.replies.length))

/-- `s` after `k` draws were taken. -/
def State.drawn (k : Nat) (s : State) : State :=
  { s with replies := s.replies.drop k, draws := s.draws + (k - s.replies.length) }

/-- The quiescent device for the next `k` primitives (20_memory.md R64): each is answered and succeeds, and
nothing but the block changes a register. -/
abbrev State.quiescent (k : Nat) (s : State) : Prop :=
  s.answers k ∧ ∀ j < k, (s.drawAt j).ok = true ∧ (s.drawAt j).changes = []

/-- `s` once the device of `sp` has made the own changes that the `k`-th next draw brings. -/
def State.atAccess (sp : Space) (k : Nat) (s : State) : State := s.deviceActs sp (s.drawAt k).changes

/-- The three registers of the time, as they stand (20_memory.md R55). -/
def State.timeRegs (s : State) : Buf3 :=
  { b0 := s.deviceByte .rtc 0x02, b1 := s.deviceByte .rtc 0x03, b2 := s.deviceByte .rtc 0x04 }

/-- The four registers of the date, as they stand (20_memory.md R55). -/
def State.dateRegs (s : State) : Buf4 :=
  { b0 := s.deviceByte .rtc 0x05, b1 := s.deviceByte .rtc 0x06
    b2 := s.deviceByte .rtc 0x07, b3 := s.deviceByte .rtc 0x08 }

/-- Coordinate block `n` as it stands (20_memory.md R57). -/
def State.touchRegs (n : Nat) (s : State) : Buf4 :=
  { b0 := s.deviceByte .tch (s.cfg.touchP0Base.val + 6 * n)
    b1 := s.deviceByte .tch (s.cfg.touchP0Base.val + 6 * n + 1)
    b2 := s.deviceByte .tch (s.cfg.touchP0Base.val + 6 * n + 2)
    b3 := s.deviceByte .tch (s.cfg.touchP0Base.val + 6 * n + 3) }

/-! ### Encodings (30_encoding.md R81, R82) -/

/-- The 18 values of `op` (R82). -/
def opcodes : List Byte :=
  [0x01, 0x02, 0x10, 0x11, 0x12, 0x13, 0x14, 0x15, 0x16, 0x17, 0x20, 0x21, 0x22, 0x30, 0x31, 0x40, 0x41, 0x42]

/-- The operand bits on port `a` that the format of an operation names (R81, R82). -/
def namedA : Instr → Word32
  | .bcdDec _ => 0x000000FF
  | .bcdEnc _ => 0x000000FF
  | .rtcTunpk _ => 0x00FFFFFF
  | .rtcTpack _ => 0x00FFFFFF
  | .rtcDunpk _ => 0xFFFFFFFF
  | .rtcDpack _ => 0x00FFFFFF
  | .rtcGett => 0
  | .rtcSett _ => 0x00FFFFFF
  | .rtcGetd => 0
  | .rtcSetd _ => 0x00FFFFFF
  | .tchNorm _ => 0xFFFFFFFF
  | .tchPoll => 0
  | .tchPoint _ => 0x000000FF
  | .toneCalc _ => 0xFFFFFFFF
  | .tonePlay _ => 0xFFFFFFFF
  | .edClick => 0
  | .edEdit _ => 0x000000FF
  | .edTick => 0

/-- The operand bits on port `b` that the format of an operation names (R81, R82). -/
def namedB : Instr → Word32
  | .bcdDec _ => 0
  | .bcdEnc _ => 0
  | .rtcTunpk _ => 0
  | .rtcTpack _ => 0
  | .rtcDunpk _ => 0
  | .rtcDpack _ => 0x0000FFFF
  | .rtcGett => 0
  | .rtcSett _ => 0
  | .rtcGetd => 0
  | .rtcSetd _ => 0x0000FFFF
  | .tchNorm _ => 0
  | .tchPoll => 0
  | .tchPoint _ => 0
  | .toneCalc _ => 0xFFFFFFFF
  | .tonePlay _ => 0xFFFFFFFF
  | .edClick => 0
  | .edEdit _ => 0
  | .edTick => 0

/-! ### What an operation may report and issue -/

/-- The `status` codes an operation may end with (60_exceptions.md R210). -/
def statuses : Instr → List (BitVec 4)
  | .bcdDec _ => [0]
  | .bcdEnc _ => [0]
  | .rtcTunpk _ => [0]
  | .rtcTpack _ => [0]
  | .rtcDunpk _ => [0]
  | .rtcDpack _ => [0]
  | .rtcGett => [0, 1]
  | .rtcSett _ => [0, 1]
  | .rtcGetd => [0, 1]
  | .rtcSetd _ => [0, 1]
  | .tchNorm _ => [0]
  | .tchPoll => [0, 1]
  | .tchPoint _ => [0, 1, 2]
  | .toneCalc _ => [0, 3, 4]
  | .tonePlay _ => [0, 3, 4, 5, 6]
  | .edClick => [0]
  | .edEdit _ => [0]
  | .edTick => [0, 1]

/-- A bus access without its data: is it a write, the space, the first register, how many bytes. -/
structure BusAccess where
  isWrite : Bool
  sp : Space
  addr : Nat
  n : Nat
deriving DecidableEq, Repr

/-- The bus access that a primitive is, if it is one. -/
def Access.bus : Access → Option BusAccess
  | .memRead sp addr n _ => some { isWrite := false, sp := sp, addr := addr, n := n }
  | .memWrite sp addr data _ => some { isWrite := true, sp := sp, addr := addr, n := data.length }
  | .ptStop _ => none
  | .ptStart _ _ => none

/-- The bus accesses of an operation (20_memory.md R61): no row, no access. -/
def busAccesses (s : State) : Instr → List BusAccess
  | .bcdDec _ => []
  | .bcdEnc _ => []
  | .rtcTunpk _ => []
  | .rtcTpack _ => []
  | .rtcDunpk _ => []
  | .rtcDpack _ => []
  | .rtcGett => [⟨false, .rtc, 0x02, 3⟩]
  | .rtcSett _ => [⟨true, .rtc, 0x02, 3⟩]
  | .rtcGetd => [⟨false, .rtc, 0x05, 4⟩]
  | .rtcSetd _ => [⟨true, .rtc, 0x05, 4⟩]
  | .tchNorm _ => []
  | .tchPoll => [⟨false, .tch, s.cfg.touchCountReg.toNat, 1⟩]
  | .tchPoint n => if n.toNat ≤ 3 then [⟨false, .tch, s.cfg.touchP0Base.val + 6 * n.toNat, 4⟩] else []
  | .toneCalc _ => []
  | .tonePlay _ => []
  | .edClick => []
  | .edEdit _ => []
  | .edTick =>
    if s.mode = .run then [⟨false, .rtc, 0x02, 3⟩, ⟨false, .rtc, 0x05, 4⟩]
    else [⟨true, .rtc, 0x02, 3⟩, ⟨true, .rtc, 0x05, 4⟩]

/-! ### Invariants -/

/-- Both register lists are in canonical form. -/
abbrev State.regsCanonical (s : State) : Prop := Memory.wf s.rtcRegs ∧ Memory.wf s.tchRegs

/-- The channel as one primitive leaves it, if the primitive is legal on it: a transmission starts on an Idle
channel only, and only an Active one is stopped (43_tone_generator.md R161, R162). -/
def channelStep (c : ToneState) : Access → Option ToneState
  | .memRead _ _ _ _ => some c
  | .memWrite _ _ _ _ => some c
  | .ptStop _ => if c = .active then some .idle else none
  | .ptStart _ ok => if c = .idle then some (if ok then .active else .idle) else none

/-- The channel as a sequence of primitives leaves it, if each is legal in its place. -/
def channelAfter : ToneState → List Access → Option ToneState
  | c, [] => some c
  | c, x :: xs =>
    match channelStep c x with
    | none => none
    | some c' => channelAfter c' xs

/-- One owner of the channel (10_state.md R26): every peripheral primitive issued so far was legal in its
place, and TG is what they leave. -/
abbrev State.channelOwned (s : State) : Prop := channelAfter .idle s.trace = some s.tg

/-- The working year is not negative (41_rtc_decoder.md R118). -/
abbrev State.yearNonneg (s : State) : Prop := 0 ≤ s.wd.year.toInt

/-- `k` commands one after the other, stopping at the first fault or refusal (30_encoding.md R80). -/
def steps : Nat → State → Host.Outcome State Fault Refusal
  | 0, s => .next s
  | k + 1, s =>
    match step s with
    | .next s' => steps k s'
    | .fault r => .fault r
    | .refused r => .refused r

/-- A run is safe when its outcome is a next state: no primitive stayed silent and nothing was refused. -/
def safe : Host.Outcome State Fault Refusal → Bool
  | .next _ => true
  | .fault _ => false
  | .refused _ => false

end Sys2Proof.Machine
end

