-- ==== Sys2Proof/Certificates/Slice0/Obligations.lean ====
section
/-! DEFINITION. The statements for the provers, family by family. Each docstring names the rules of spec/ it
formalises, or says that it is the model's own choice and names the log entry. -/

open Sys2Proof Sys2Proof.Machine

/-! ### BCD codec -/

/-- 40_bcd_codec.md R100: BCD.DEC on every operand port, as numbers; nothing else of the state changes. -/
def Obligations.BcdDecUnpacksEveryByte : Prop :=
  ∀ (a b : Word32) (s : State),
    decode { op := 0x01, a := a, b := b } = .ok (.bcdDec (a.extractLsb' 0 8)) ∧
    exec (.bcdDec (a.extractLsb' 0 8)) s
      = .next { s with response := some (.ok (BitVec.ofNat 32 (bcdValue (byteOf 0 a))) 0) }

/-- 40_bcd_codec.md R101: BCD.ENC on every operand port, in closed form; nothing else changes. That 160..255 is
cut to 8 bits is decision D8 of the spec (log 15). -/
def Obligations.BcdEncPacksEveryByte : Prop :=
  ∀ (a b : Word32) (s : State),
    decode { op := 0x02, a := a, b := b } = .ok (.bcdEnc (a.extractLsb' 0 8)) ∧
    exec (.bcdEnc (a.extractLsb' 0 8)) s
      = .next { s with response := some (.ok (BitVec.ofNat 32 (bcdDigits (byteOf 0 a))) 0) }

/-- 40_bcd_codec.md R102, and what follows from R100 and R101 beyond it: the round trip up to 159 and from 160,
the other direction, the image of 0..99, the low nibble. The other direction holds exactly for a low nibble of
at most 9: the closing clause of R103(c), that it fails for every byte with a nibble above 9, is not what R100
and R101 give for 0xA0..0xF9 with a decimal low nibble (log 29). -/
def Obligations.BcdRoundTripAndImage : Prop :=
  (∀ v : Byte, v.toNat ≤ 159 → bcdDecode (bcdEncode v) = v) ∧
  (∀ v : Byte, 160 ≤ v.toNat → bcdDecode (bcdEncode v) = v - 160) ∧
  (∀ b : Byte, bcdEncode (bcdDecode b) = b ↔ b.toNat % 16 ≤ 9) ∧
  (∀ v w : Byte, v.toNat ≤ 99 → w.toNat ≤ 99 → bcdEncode v = bcdEncode w → v = w) ∧
  (∀ b : Byte, (∃ v : Byte, v.toNat ≤ 99 ∧ bcdEncode v = b) ↔ b.toNat / 16 ≤ 9 ∧ b.toNat % 16 ≤ 9) ∧
  (∀ v : Byte, (bcdEncode v).toNat % 16 ≤ 9)

/-! ### RTC register decoder, pure operations -/

/-- 41_rtc_decoder.md R111 (byte order R112): RTC.TUNPK on every operand port, as numbers. -/
def Obligations.TunpkMasksAndDecodes : Prop :=
  ∀ (a b : Word32) (s : State),
    decode { op := 0x10, a := a, b := b } = .ok (.rtcTunpk (layoutR3 a)) ∧
    exec (.rtcTunpk (layoutR3 a)) s = .next { s with response := some (.ok
      (portOf (bcdValue (byteOf 0 a % 128)) (bcdValue (byteOf 1 a % 128)) (bcdValue (byteOf 2 a % 64)) 0) 0) }

/-- 41_rtc_decoder.md R113: RTC.TPACK on every operand port, as numbers. -/
def Obligations.TpackEncodesUnmasked : Prop :=
  ∀ (a b : Word32) (s : State),
    decode { op := 0x11, a := a, b := b } = .ok (.rtcTpack (layoutT a)) ∧
    exec (.rtcTpack (layoutT a)) s = .next { s with response := some (.ok
      (portOf (bcdDigits (byteOf 0 a)) (bcdDigits (byteOf 1 a)) (bcdDigits (byteOf 2 a)) 0) 0) }

/-- 41_rtc_decoder.md R115 (century flag R114, byte order R116): RTC.DUNPK on every operand port, as numbers. -/
def Obligations.DunpkMasksDecodesAndDatesTheCentury : Prop :=
  ∀ (a b : Word32) (s : State),
    decode { op := 0x12, a := a, b := b } = .ok (.rtcDunpk (layoutR4 a)) ∧
    exec (.rtcDunpk (layoutR4 a)) s = .next { s with response := some (.ok
      (portOf (bcdValue (byteOf 0 a % 64)) (bcdValue (byteOf 1 a % 16)) (bcdValue (byteOf 2 a % 32)) 0)
      (BitVec.ofNat 32 ((if 128 ≤ byteOf 2 a then 1900 else 2000) + bcdValue (byteOf 3 a)))) }

/-- 41_rtc_decoder.md R117: RTC.DPACK on every operand port with a year that is not negative, as numbers. The
place of the masks is decision D11 of the spec (log 16). -/
def Obligations.DpackEncodesMasksAndFlagsTheCentury : Prop :=
  ∀ (a b : Word32) (s : State),
    decode { op := 0x13, a := a, b := b } = .ok (.rtcDpack (layoutD a b)) ∧
    (b.toNat % 65536 < 32768 →
      exec (.rtcDpack (layoutD a b)) s = .next { s with response := some (.ok
        (portOf (bcdDigits (byteOf 0 a) % 64) (bcdDigits (byteOf 1 a) % 16)
          (bcdDigits (byteOf 2 a) % 32 + if b.toNat % 65536 < 2000 then 128 else 0)
          (bcdDigits (b.toNat % 65536 % 100))) 0) })

/-- 41_rtc_decoder.md R118: RTC.DPACK of a negative year completes; the first three bytes are as R117 says, the
century bit set, and the fourth is some byte, of which nothing is said (log 8). -/
def Obligations.DpackOfNegativeYearLeavesOneByteFree : Prop :=
  ∀ (d : Date) (s : State), d.year.toInt < 0 →
    ∃ (v : Byte) (n : Nat), exec (.rtcDpack d) s = .next { s with
      yearDraws := n
      response := some (.ok (portOf (bcdDigits d.day.toNat % 64) (bcdDigits d.weekday.toNat % 16)
        (bcdDigits d.month.toNat % 32 + 128) v.toNat) 0) }

/-- 41_rtc_decoder.md R119, the exact domains of the round trips, which the spec derives ("The exact domains on
which the round trip holds are wider"), whatever byte a negative year stores. -/
def Obligations.RoundTripsExactlyOnTheirDomain : Prop :=
  (∀ t : Time, timeUnpack (timePack t) = t ↔
    t.seconds.toNat ≤ 79 ∧ t.minutes.toNat ≤ 79 ∧ t.hours.toNat ≤ 39) ∧
  (∀ (d : Date) (free : Byte), dateUnpack (datePack d free) = d ↔
    d.day.toNat ≤ 39 ∧ d.weekday.toNat ≤ 9 ∧ d.month.toNat ≤ 19 ∧ 1900 ≤ d.year.toInt ∧ d.year.toInt ≤ 2099)

/-- The ranges of what the store can deliver, as 41_rtc_decoder.md derives them in the corner cases of R111 and
R115 ("No range check follows: the largest results are"). -/
def Obligations.UnpackedValuesStayInTheirRanges : Prop :=
  (∀ buf : Buf3, (timeUnpack buf).seconds.toNat ≤ 85 ∧ (timeUnpack buf).minutes.toNat ≤ 85 ∧
    (timeUnpack buf).hours.toNat ≤ 45) ∧
  (∀ buf : Buf4, (dateUnpack buf).day.toNat ≤ 45 ∧ (dateUnpack buf).weekday.toNat ≤ 15 ∧
    (dateUnpack buf).month.toNat ≤ 25 ∧ 1900 ≤ (dateUnpack buf).year.toInt ∧ (dateUnpack buf).year.toInt ≤ 2165)

/-! ### RTC register decoder, bus operations -/

/-- 41_rtc_decoder.md R120: RTC.GETT, from one read of the three registers as they then stand; only the device's
own changes reach the registers, and no other field moves but the result, the trace and the oracle's own. -/
def Obligations.GettUnpacksWhatTheDeviceAnswers : Prop :=
  ∀ s : State, s.answers 1 →
    exec .rtcGett s = .next { (s.atAccess .rtc 0).drawn 1 with
      response := if (s.drawAt 0).ok then some (.ok (packTime (timeUnpack (s.atAccess .rtc 0).timeRegs)) 0)
        else some (.error .busError)
      trace := s.trace ++ [.memRead .rtc 0x02 3
        (if (s.drawAt 0).ok then some (s.atAccess .rtc 0).timeRegs.bytes else none)] }

/-- 41_rtc_decoder.md R124: RTC.GETD, from one read of the four registers as they then stand, with its frame. -/
def Obligations.GetdUnpacksWhatTheDeviceAnswers : Prop :=
  ∀ s : State, s.answers 1 →
    exec .rtcGetd s = .next { (s.atAccess .rtc 0).drawn 1 with
      response := if (s.drawAt 0).ok then
          some (.ok (packDate (dateUnpack (s.atAccess .rtc 0).dateRegs))
            ((dateUnpack (s.atAccess .rtc 0).dateRegs).year.setWidth 32))
        else some (.error .busError)
      trace := s.trace ++ [.memRead .rtc 0x05 4
        (if (s.drawAt 0).ok then some (s.atAccess .rtc 0).dateRegs.bytes else none)] }

/-- 41_rtc_decoder.md R122 and 20_memory.md R53: RTC.SETT. On success the three registers hold the packed time;
on failure each holds its old byte or its new one; every other register of the device reads as before the
write, and nothing else of the state moves but the result, the trace and the oracle's own fields. -/
def Obligations.SettWritesThreeRegisters : Prop :=
  ∀ (tm : Time) (s : State), s.answers 1 →
    ∃ t : State, exec (.rtcSett tm) s = .next t ∧
      t = { (s.atAccess .rtc 0).drawn 1 with
        rtcRegs := t.rtcRegs
        response := if (s.drawAt 0).ok then some (.ok 0 0) else some (.error .busError)
        trace := s.trace ++ [.memWrite .rtc 0x02 (timePack tm).bytes (s.drawAt 0).ok] } ∧
      ((s.drawAt 0).ok = true → t.timeRegs = timePack tm) ∧
      (∀ (i : Nat) (h : i < (timePack tm).bytes.length),
        t.deviceByte .rtc (0x02 + i) = (timePack tm).bytes[i] ∨
        t.deviceByte .rtc (0x02 + i) = (s.atAccess .rtc 0).deviceByte .rtc (0x02 + i)) ∧
      (∀ x : Nat, x < 0x02 ∨ 0x04 < x → t.deviceByte .rtc x = (s.atAccess .rtc 0).deviceByte .rtc x)

/-- 41_rtc_decoder.md R126 and 20_memory.md R53: RTC.SETD, as RTC.SETT. The fourth byte of a negative year is
the free one of R118, for every value of it (log 8). -/
def Obligations.SetdWritesFourRegisters : Prop :=
  ∀ (d : Date) (s : State), s.answers 1 →
    ∃ (t : State) (free : Byte), exec (.rtcSetd d) s = .next t ∧
      t = { (s.atAccess .rtc 0).drawn 1 with
        rtcRegs := t.rtcRegs
        yearDraws := if d.year.toInt < 0 then s.yearDraws + 1 else s.yearDraws
        response := if (s.drawAt 0).ok then some (.ok 0 0) else some (.error .busError)
        trace := s.trace ++ [.memWrite .rtc 0x05 (datePack d free).bytes (s.drawAt 0).ok] } ∧
      ((s.drawAt 0).ok = true → t.dateRegs = datePack d free) ∧
      (∀ (i : Nat) (h : i < (datePack d free).bytes.length),
        t.deviceByte .rtc (0x05 + i) = (datePack d free).bytes[i] ∨
        t.deviceByte .rtc (0x05 + i) = (s.atAccess .rtc 0).deviceByte .rtc (0x05 + i)) ∧
      (∀ x : Nat, x < 0x05 ∨ 0x08 < x → t.deviceByte .rtc x = (s.atAccess .rtc 0).deviceByte .rtc x)

/-- RTC.SETT then RTC.GETT on a quiescent store, as 41_rtc_decoder.md R123 derives it ("After a successful
`RTC.SETT t` on a quiescent store"). -/
def Obligations.GettReturnsWhatSettWrote : Prop :=
  ∀ (tm : Time) (s : State), s.quiescent 2 →
    ∃ s1 s2 : State, exec (.rtcSett tm) s = .next s1 ∧ s1.timeRegs = timePack tm ∧
      exec .rtcGett s1 = .next s2 ∧
      s2.response = some (.ok (packTime (timeUnpack (timePack tm))) 0) ∧
      (tm.seconds.toNat ≤ 79 → tm.minutes.toNat ≤ 79 → tm.hours.toNat ≤ 39 →
        s2.response = some (.ok (packTime tm) 0))

/-- RTC.SETD then RTC.GETD on a quiescent store, as 41_rtc_decoder.md R127 derives it ("After a successful
`RTC.SETD d` on a quiescent store"). -/
def Obligations.GetdReturnsWhatSetdWrote : Prop :=
  ∀ (d : Date) (s : State), s.quiescent 2 →
    ∃ (s1 s2 : State) (free : Byte), exec (.rtcSetd d) s = .next s1 ∧ s1.dateRegs = datePack d free ∧
      exec .rtcGetd s1 = .next s2 ∧
      s2.response = some (.ok (packDate (dateUnpack (datePack d free)))
        ((dateUnpack (datePack d free)).year.setWidth 32)) ∧
      (d.day.toNat ≤ 39 → d.weekday.toNat ≤ 9 → d.month.toNat ≤ 19 → 1900 ≤ d.year.toInt →
        d.year.toInt ≤ 2099 → s2.response = some (.ok (packDate d) (d.year.setWidth 32)))

/-! ### Touch normalizer -/

/-- 42_touch_normalizer.md R144 (R141, R142): TCH.NORM on every operand port, as numbers. -/
def Obligations.NormAssemblesAndSwaps : Prop :=
  ∀ (a b : Word32) (s : State),
    decode { op := 0x20, a := a, b := b } = .ok (.tchNorm (layoutR4 a)) ∧
    exec (.tchNorm (layoutR4 a)) s = .next { s with response := some (.ok
      (if s.cfg.rotation ≠ 0 then
        BitVec.ofNat 32 ((byteOf 2 a % 16 * 256 + byteOf 3 a) + (byteOf 0 a % 16 * 256 + byteOf 1 a) * 65536)
      else
        BitVec.ofNat 32 ((byteOf 0 a % 16 * 256 + byteOf 1 a) + (byteOf 2 a % 16 * 256 + byteOf 3 a) * 65536)) 0) }

/-- 42_touch_normalizer.md R145, the source's worked example, in both rotations. -/
def Obligations.NormOfTheWorkedExample : Prop :=
  ∀ s : State,
    exec (.tchNorm { b0 := 0x01, b1 := 0x23, b2 := 0x02, b3 := 0x45 }) s = .next { s with
      response := some (.ok (if s.cfg.rotation = 0 then packHalves 291 581 else packHalves 581 291) 0) }

/-- 42_touch_normalizer.md R146: TCH.POLL, from one read of the count register, with its frame. -/
def Obligations.PollReturnsTheMaskedCount : Prop :=
  ∀ s : State, s.answers 1 →
    exec .tchPoll s = .next { (s.atAccess .tch 0).drawn 1 with
      response := if (s.drawAt 0).ok then
          some (.ok (BitVec.ofNat 32
            (((s.atAccess .tch 0).deviceByte .tch s.cfg.touchCountReg.toNat).toNat % 16)) 0)
        else some (.error .busError)
      trace := s.trace ++ [.memRead .tch s.cfg.touchCountReg.toNat 1
        (if (s.drawAt 0).ok then some [(s.atAccess .tch 0).deviceByte .tch s.cfg.touchCountReg.toNat]
         else none)] }

/-- 42_touch_normalizer.md R148: TCH.POINT. An index above 3 is BadPointIndex with no bus traffic, even where
the environment would stay silent; otherwise one read of the block, with its frame. -/
def Obligations.PointReadsItsBlockOrRejectsTheIndex : Prop :=
  ∀ (n : Byte) (s : State),
    (3 < n.toNat → exec (.tchPoint n) s = .next { s with response := some (.error .badPointIndex) }) ∧
    (n.toNat ≤ 3 → s.answers 1 →
      exec (.tchPoint n) s = .next { (s.atAccess .tch 0).drawn 1 with
        response := if (s.drawAt 0).ok then
            some (.ok
              (packHalves
                (touchNorm s.cfg.rotation ((s.atAccess .tch 0).touchRegs n.toNat)).1
                (touchNorm s.cfg.rotation ((s.atAccess .tch 0).touchRegs n.toNat)).2)
              (n.setWidth 32))
          else some (.error .busError)
        trace := s.trace ++ [.memRead .tch (s.cfg.touchP0Base.val + 6 * n.toNat) 4
          (if (s.drawAt 0).ok then some ((s.atAccess .tch 0).touchRegs n.toNat).bytes else none)] })

/-- What 42_touch_normalizer.md R147 derives and R149 says ("the block keeps no copy of the last count or the
last point"): the answer of TCH.POINT depends on the configuration, the device and
the environment alone: not on the last count or point, nor on any block register. -/
def Obligations.PointIgnoresEverythingButTheDevice : Prop :=
  ∀ (n : Byte) (s1 s2 t1 t2 : State),
    s1.cfg = s2.cfg → s1.tchRegs = s2.tchRegs → s1.replies = s2.replies → s1.draws = s2.draws →
    exec (.tchPoint n) s1 = .next t1 → exec (.tchPoint n) s2 = .next t2 → t1.response = t2.response

/-! ### Tone generator -/

/-- 43_tone_generator.md R164 (R157, R158, R159, R163): TONE.CALC, as numbers; nothing but the result moves. -/
def Obligations.CalcFollowsTheThreeSteps : Prop :=
  ∀ (q : ToneRequest) (s : State),
    exec (.toneCalc q) s = .next { s with
      response := if q.freqHz.toNat ≤ s.cfg.baseClock.toNat / 65536 then some (.error .freqTooLow)
      else if s.cfg.maxLoopCount.toNat < q.durationMs.toNat * q.freqHz.toNat / 1000 then
        some (.error .durationTooLongForFreq)
      else some (.ok
        (BitVec.ofNat 32 (s.cfg.baseClock.toNat / q.freqHz.toNat / 2
          + (s.cfg.baseClock.toNat / q.freqHz.toNat - s.cfg.baseClock.toNat / q.freqHz.toNat / 2) * 65536))
        (BitVec.ofNat 32 (q.durationMs.toNat * q.freqHz.toNat / 1000))) }

/-- When the steps pass, no field of the pulse parameters loses a bit, as 43_tone_generator.md R160 derives it
("Bounds that follow from step 1"). -/
def Obligations.PulseParametersFitTheirFields : Prop :=
  ∀ (cfg : ConfigInputs) (q : ToneRequest) (p : PulseParams), toneCalc cfg q = .params p →
    p.high.toNat = cfg.baseClock.toNat / q.freqHz.toNat / 2 ∧
    p.high.toNat + p.low.toNat = cfg.baseClock.toNat / q.freqHz.toNat ∧
    cfg.baseClock.toNat / q.freqHz.toNat ≤ 65535 ∧ p.high.toNat ≤ 32767 ∧ p.low.toNat ≤ 32768 ∧
    p.repeatCount.toNat = q.durationMs.toNat * q.freqHz.toNat / 1000 ∧
    p.repeatCount.toNat ≤ cfg.maxLoopCount.toNat ∧
    (cfg.baseClock.toNat < q.freqHz.toNat → p.high = 0 ∧ p.low = 0) ∧
    (cfg.baseClock = q.freqHz → p.high = 0 ∧ p.low = 1)

/-- 43_tone_generator.md R165 and R166: the nine rows of the transition table of TONE.PLAY, each with the
primitives it calls and its frame. -/
def Obligations.PlayFollowsTheTransitionTable : Prop :=
  ∀ (q : ToneRequest) (s : State),
    (toneCalc s.cfg q = .freqTooLow →
      exec (.tonePlay q) s = .next { s with response := some (.error .freqTooLow) }) ∧
    (toneCalc s.cfg q = .durationTooLongForFreq →
      exec (.tonePlay q) s = .next { s with response := some (.error .durationTooLongForFreq) }) ∧
    (∀ p : PulseParams, toneCalc s.cfg q = .params p → s.tg = .idle → s.answers 1 →
      exec (.tonePlay q) s = .next { s.drawn 1 with
        tg := if (s.drawAt 0).ok then .active else .idle
        response := if (s.drawAt 0).ok then some (.ok 0 0) else some (.error .txError)
        trace := s.trace ++ [.ptStart p (s.drawAt 0).ok] }) ∧
    (∀ p : PulseParams, toneCalc s.cfg q = .params p → s.tg = .active → s.answers 1 →
      (s.drawAt 0).ok = false →
      exec (.tonePlay q) s = .next { s.drawn 1 with
        tg := .idle
        response := some (.error .stopError)
        trace := s.trace ++ [.ptStop false] }) ∧
    (∀ p : PulseParams, toneCalc s.cfg q = .params p → s.tg = .active → s.answers 2 →
      (s.drawAt 0).ok = true →
      exec (.tonePlay q) s = .next { s.drawn 2 with
        tg := if (s.drawAt 1).ok then .active else .idle
        response := if (s.drawAt 1).ok then some (.ok 0 0) else some (.error .txError)
        trace := s.trace ++ [.ptStop true, .ptStart p (s.drawAt 1).ok] })

/-- 10_state.md R26 and 43_tone_generator.md R161, R162, as an invariant of every step from every state: TG is
what the peripheral primitives issued so far leave, a transmission is started only on an Idle channel and only
an Active one is stopped. That the issued primitives are recorded is the model's own field (log 14). -/
def Obligations.EveryStepKeepsOneOwnerOfTheChannel : Prop :=
  ∀ s t : State, s.channelOwned → step s = .next t → t.channelOwned

/-! ### Editable clock -/

/-- 44_editable_clock.md R184: ED.CLICK, in the codes of 10_state.md R23; nothing else changes. -/
def Obligations.ClickAdvancesTheModeCycle : Prop :=
  ∀ s : State, ∃ m : Mode, exec .edClick s = .next { s with mode := m, response := some (.ok 0 0) } ∧
    (modeCode m).toNat = ((modeCode s.mode).toNat + 1) % 6

/-- 44_editable_clock.md R185: from `Run`, after `k` clicks the mode has code `k mod 6`, for every `k`. The clicks
are presented as the model presents commands (log 1). -/
def Obligations.ClicksFromRunCountModuloSix : Prop :=
  ∀ (k : Nat) (s : State), s.mode = .run →
    ∃ t : State, steps k { s with commands := List.replicate k { op := 0x40, a := 0, b := 0 } }
        = .next t ∧
      (modeCode t.mode).toNat = k % 6 ∧ t.wt = s.wt ∧ t.wd = s.wd ∧ t.tg = s.tg ∧ t.trace = s.trace

/-- 44_editable_clock.md R181: the wrap contract, and the range of its result. -/
def Obligations.WrapSendsToTheOppositeEnd : Prop :=
  ∀ current delta ceiling : Int, 1 ≤ ceiling →
    (ceiling ≤ current + delta → wrap current delta ceiling = 0) ∧
    (current + delta < 0 → wrap current delta ceiling = ceiling - 1) ∧
    (0 ≤ current + delta → current + delta < ceiling → wrap current delta ceiling = current + delta) ∧
    0 ≤ wrap current delta ceiling ∧ wrap current delta ceiling < ceiling

/-- 44_editable_clock.md R186 with the field table R182: ED.EDIT in every mode. No bit of a written field is
lost, the field ends below its ceiling, and nothing else changes; in `Run` nothing changes at all. Deltas other
than -1, 0, 1 rest on decision D22 of the spec (log 18). -/
def Obligations.EditWrapsTheFieldOfItsMode : Prop :=
  ∀ (delta : Byte) (s : State), ∃ t : State, exec (.edEdit delta) s = .next t ∧
    t = { s with wt := t.wt, wd := t.wd, response := some (.ok 0 0) } ∧
    (s.mode = .run → t.wt = s.wt ∧ t.wd = s.wd) ∧
    (s.mode = .editHours → t.wt = { s.wt with hours := t.wt.hours } ∧ t.wd = s.wd ∧
      (t.wt.hours.toNat : Int) = wrap s.wt.hours.toNat delta.toInt 24 ∧ t.wt.hours.toNat < 24) ∧
    (s.mode = .editMinutes → t.wt = { s.wt with minutes := t.wt.minutes } ∧ t.wd = s.wd ∧
      (t.wt.minutes.toNat : Int) = wrap s.wt.minutes.toNat delta.toInt 60 ∧ t.wt.minutes.toNat < 60) ∧
    (s.mode = .editDay → t.wt = s.wt ∧ t.wd = { s.wd with day := t.wd.day } ∧
      (t.wd.day.toNat : Int) = wrap s.wd.day.toNat delta.toInt 31 ∧ t.wd.day.toNat < 31) ∧
    (s.mode = .editMonth → t.wt = s.wt ∧ t.wd = { s.wd with month := t.wd.month } ∧
      (t.wd.month.toNat : Int) = wrap s.wd.month.toNat delta.toInt 12 ∧ t.wd.month.toNat < 12) ∧
    (s.mode = .editYear → t.wt = s.wt ∧ t.wd = { s.wd with year := t.wd.year } ∧
      t.wd.year.toInt = wrap s.wd.year.toInt delta.toInt 3000 ∧
      0 ≤ t.wd.year.toInt ∧ t.wd.year.toInt < 3000)

/-- 44_editable_clock.md R190 (policy R189). In `Run` a tick is RTC.GETT then RTC.GETD with the results put in
the working value; a failed half keeps it. In every edit mode it is RTC.SETT of the working time then RTC.SETD of
the working date. Both halves are attempted and either failure is the one BusError: decision D23 of the spec
(log 19). Everything else is as the two operations leave it. -/
def Obligations.TickPullsInRunAndPushesInEditModes : Prop :=
  ∀ s : State, s.answers 2 →
    (s.mode = .run →
      ∃ s1 s2 : State, exec .rtcGett s = .next s1 ∧ exec .rtcGetd s1 = .next s2 ∧
        exec .edTick s = .next { s2 with
          wt := if (s.drawAt 0).ok then timeUnpack (s.atAccess .rtc 0).timeRegs else s.wt
          wd := if (s.drawAt 1).ok then dateUnpack (s1.atAccess .rtc 0).dateRegs else s.wd
          response := if (s.drawAt 0).ok && (s.drawAt 1).ok then some (.ok 0 0) else some (.error .busError) }) ∧
    (s.mode ≠ .run →
      ∃ s1 s2 : State, exec (.rtcSett s.wt) s = .next s1 ∧ exec (.rtcSetd s.wd) s1 = .next s2 ∧
        exec .edTick s = .next { s2 with
          response := if (s.drawAt 0).ok && (s.drawAt 1).ok then some (.ok 0 0) else some (.error .busError) })

/-- 44_editable_clock.md R191: on a quiescent store a tick in an edit mode leaves the store equal to the working
value, and reading it back gives that value on the round-trip domain. -/
def Obligations.PushLeavesTheStoreEqualToTheWorkingValue : Prop :=
  ∀ s : State, s.mode ≠ .run → s.quiescent 2 →
    ∃ (t : State) (free : Byte), exec .edTick s = .next t ∧ t.response = some (.ok 0 0) ∧
      t.wt = s.wt ∧ t.wd = s.wd ∧ t.mode = s.mode ∧
      t.timeRegs = timePack s.wt ∧ t.dateRegs = datePack s.wd free ∧
      (s.wt.seconds.toNat ≤ 79 → s.wt.minutes.toNat ≤ 79 → s.wt.hours.toNat ≤ 39 →
        timeUnpack t.timeRegs = s.wt) ∧
      (s.wd.day.toNat ≤ 39 → s.wd.weekday.toNat ≤ 9 → s.wd.month.toNat ≤ 19 → 1900 ≤ s.wd.year.toInt →
        s.wd.year.toInt ≤ 2099 → dateUnpack t.dateRegs = s.wd)

/-- The spec's own inference in 41_rtc_decoder.md R118, "A negative year cannot arise inside the block", as an
invariant of every step. -/
def Obligations.EveryStepKeepsTheYearNonnegative : Prop :=
  ∀ s t : State, s.yearNonneg → step s = .next t → t.yearNonneg

/-! ### Errors, statuses and the whole machine -/

/-- 30_encoding.md R83: a command whose `op` is none of the 18 raises IllegalOp and nothing else happens. -/
def Obligations.IllegalOpChangesNothingElse : Prop :=
  ∀ (c : Command) (rest : List Command) (s : State), s.commands = c :: rest → c.op ∉ opcodes →
    step s = .next { s with commands := rest, response := some (.error .illegalOp) }

/-- 60_exceptions.md R210 and 10_state.md R31. Each operation ends with one of the status codes the table allows
it, and the result ports carry a value exactly when that code is 0; what the status port shows for OK and for each
of the seven errors, in numbers, with no value on the result ports after an error. -/
def Obligations.EveryOperationEndsWithAnAllowedStatus : Prop :=
  (∀ (i : Instr) (s t : State), exec i s = .next t →
    ∃ c ∈ statuses i, statusPort t = some c ∧ ((∃ r, resultPorts t = some r) ↔ c = 0)) ∧
  (∀ (s : State) (r0 r1 : Word32), s.response = some (.ok r0 r1) →
    statusPort s = some 0 ∧ resultPorts s = some (r0, r1)) ∧
  (∀ s : State,
    (s.response = some (.error .busError) → statusPort s = some 1 ∧ resultPorts s = none) ∧
    (s.response = some (.error .badPointIndex) → statusPort s = some 2 ∧ resultPorts s = none) ∧
    (s.response = some (.error .freqTooLow) → statusPort s = some 3 ∧ resultPorts s = none) ∧
    (s.response = some (.error .durationTooLongForFreq) → statusPort s = some 4 ∧ resultPorts s = none) ∧
    (s.response = some (.error .stopError) → statusPort s = some 5 ∧ resultPorts s = none) ∧
    (s.response = some (.error .txError) → statusPort s = some 6 ∧ resultPorts s = none) ∧
    (s.response = some (.error .illegalOp) → statusPort s = some 7 ∧ resultPorts s = none))

/-- 60_exceptions.md R216: given that the primitives answer, every operation ends; only a silent environment
leaves one without a step, here the fault `noAnswer` (log 13), and nothing is refused. -/
def Obligations.OperationsEndUnlessThePrimitivesStaySilent : Prop :=
  (∀ (i : Instr) (s : State), s.answers 2 → ∃ t, exec i s = .next t) ∧
  (∀ (s : State) (rest : List Reply), s.replies = .silent :: rest →
    exec .rtcGett s = .fault .noAnswer ∧ (∀ tm, exec (.rtcSett tm) s = .fault .noAnswer) ∧
    exec .rtcGetd s = .fault .noAnswer ∧ (∀ d, exec (.rtcSetd d) s = .fault .noAnswer) ∧
    exec .tchPoll s = .fault .noAnswer ∧ exec .edTick s = .fault .noAnswer ∧
    (∀ n : Byte, n.toNat ≤ 3 → exec (.tchPoint n) s = .fault .noAnswer) ∧
    (∀ q p, toneCalc s.cfg q = .params p → exec (.tonePlay q) s = .fault .noAnswer))

/-- 10_state.md R35, the 'writes' column: which operation may write which register; the configuration inputs
and the host's list are written by none. -/
def Obligations.OnlyTheListedOperationsWriteState : Prop :=
  ∀ (i : Instr) (s t : State), exec i s = .next t →
    (t.mode ≠ s.mode → i = .edClick) ∧
    (t.wt ≠ s.wt → (∃ delta, i = .edEdit delta) ∨ (i = .edTick ∧ s.mode = .run)) ∧
    (t.wd ≠ s.wd → (∃ delta, i = .edEdit delta) ∨ (i = .edTick ∧ s.mode = .run)) ∧
    (t.tg ≠ s.tg → ∃ q, i = .tonePlay q) ∧
    t.cfg = s.cfg ∧ t.commands = s.commands

/-- 20_memory.md R61: the eight rows are every bus access the block makes, in their order (log 14, 30); and an
operation other than TONE.PLAY issues no other primitive (10_state.md R35). -/
def Obligations.BusTrafficIsTheEightRows : Prop :=
  ∀ (i : Instr) (s t : State), exec i s = .next t →
    ∃ xs : List Access, t.trace = s.trace ++ xs ∧ xs.filterMap Access.bus = busAccesses s i ∧
      ((∀ q, i ≠ .tonePlay q) → xs.length = (busAccesses s i).length)

/-- 10_state.md R35: an operation without bus traffic or state is a pure function of its operands and the
configuration inputs (a negative year apart, whose byte is free by R118). -/
def Obligations.PureOperationsDependOnOperandsAndInputsOnly : Prop :=
  ∀ (i : Instr) (s1 s2 t1 t2 : State),
    ((∃ v, i = .bcdDec v) ∨ (∃ v, i = .bcdEnc v) ∨ (∃ b, i = .rtcTunpk b) ∨ (∃ t, i = .rtcTpack t) ∨
      (∃ b, i = .rtcDunpk b) ∨ (∃ d : Date, i = .rtcDpack d ∧ 0 ≤ d.year.toInt) ∨ (∃ b, i = .tchNorm b) ∨
      (∃ q, i = .toneCalc q)) →
    s1.cfg = s2.cfg → exec i s1 = .next t1 → exec i s2 = .next t2 →
    t1.response = t2.response ∧ t1.trace = s1.trace ∧ t1.rtcRegs = s1.rtcRegs ∧ t1.tchRegs = s1.tchRegs

/-- 10_state.md R32: no step changes a configuration input. -/
def Obligations.EveryStepKeepsTheConfigurationInputs : Prop :=
  ∀ s t : State, step s = .next t → t.cfg = s.cfg

/-- 10_state.md R36: where each register shows on its port, with the codes of MODE (R23) and of TG (R26) in
numbers. -/
def Obligations.StatePortsShowTheRegisters : Prop :=
  ∀ s : State,
    (s.mode = .run → modePort s = 0) ∧ (s.mode = .editHours → modePort s = 1) ∧
    (s.mode = .editMinutes → modePort s = 2) ∧ (s.mode = .editDay → modePort s = 3) ∧
    (s.mode = .editMonth → modePort s = 4) ∧ (s.mode = .editYear → modePort s = 5) ∧
    (s.tg = .idle → tgPort s = 0) ∧ (s.tg = .active → tgPort s = 1) ∧
    modePort s = modeCode s.mode ∧ tgPort s = toneCode s.tg ∧
    (wtPort s).extractLsb' 0 8 = s.wt.seconds ∧ (wtPort s).extractLsb' 8 8 = s.wt.minutes ∧
    (wtPort s).extractLsb' 16 8 = s.wt.hours ∧
    (wdPort s).extractLsb' 0 8 = s.wd.day ∧ (wdPort s).extractLsb' 8 8 = s.wd.weekday ∧
    (wdPort s).extractLsb' 16 8 = s.wd.month ∧ (wdPort s).extractLsb' 24 16 = s.wd.year

/-- The state after reset, 70_reset_and_hazards.md R245 (R241 to R244). TG is the spec's own derivation in R243
(log 11); the open constants and the empty result ports are the model's forms (log 9, 10, 12). -/
def Obligations.ResetValues : Prop :=
  State.reset.mode = .run ∧ State.reset.wt = Config.editorDefaultTime ∧
  State.reset.wd = Config.editorDefaultDate ∧ State.reset.tg = .idle ∧
  statusPort State.reset = none ∧ resultPorts State.reset = none ∧
  State.reset.cfg = ⟨Config.rotation, Config.baseClock, Config.maxLoopCount, Config.touchCountReg,
    Config.touchP0Base⟩

/-- The model's choice at reset (log 1, 4, 14): no command presented, no reply lined up, no primitive issued; so
the invariants of the channel and of the register lists hold there. -/
def Obligations.ResetMeetsTheInvariants : Prop :=
  State.reset.channelOwned ∧ State.reset.regsCanonical ∧ State.reset.commands = [] ∧ State.reset.replies = []

/-! ### Device registers -/

/-- 20_memory.md R63, on the model's register lists: a register reads what was last stored in it, and a device
that changes a register of its own changes no other, in no other space (log 5, 6). -/
def Obligations.RegistersReadWhatWasLastStored : Prop :=
  (∀ (m : List Host.Cell) (a x : Nat) (v : Byte),
    Memory.get (Memory.set m a v) x = if x = a then some v else Memory.get m x) ∧
  (∀ (s : State) (sp : Space) (k a : Nat), (∀ c ∈ (s.drawAt k).changes, c.1.toNat ≠ a) →
    (s.atAccess sp k).deviceByte sp a = s.deviceByte sp a) ∧
  (∀ (s : State) (k a : Nat), (s.atAccess .rtc k).deviceByte .tch a = s.deviceByte .tch a ∧
    (s.atAccess .tch k).deviceByte .rtc a = s.deviceByte .rtc a)

/-- The register lists keep their canonical form under every step from every state (log 5; the address width is
20_memory.md R50). -/
def Obligations.EveryStepKeepsTheRegisterListsCanonical : Prop :=
  ∀ s t : State, s.regsCanonical → step s = .next t → t.regsCanonical

/-! ### Encoding and commands -/

/-- 30_encoding.md R81 and R82: encoding any operation with any operands and decoding it gives it back; and an
operation that is decoded is encoded as the same command with the bits its format does not name at zero. -/
def Obligations.DecodeAndEncodeAgree : Prop :=
  (∀ i : Instr, decode (encode i) = .ok i) ∧
  (∀ (c : Command) (i : Instr), decode c = .ok i →
    encode i = { op := c.op, a := c.a &&& namedA i, b := c.b &&& namedB i })

/-- 30_encoding.md R82, "compare `op` with the 18 values; no other bit takes part in decoding", and its table in
numbers: which operation each of the 18 values selects, with the operand bits that R81 gives its format. -/
def Obligations.DecodingDependsOnTheOpcodeAlone : Prop :=
  (∀ c : Command, (∃ i, decode c = .ok i) ↔ c.op ∈ opcodes) ∧
  (∀ (c : Command) (i : Instr), decode c = .ok i → opcode i = c.op) ∧
  (∀ c : Command,
    (c.op = 0x01 → decode c = .ok (.bcdDec (c.a.extractLsb' 0 8))) ∧
    (c.op = 0x02 → decode c = .ok (.bcdEnc (c.a.extractLsb' 0 8))) ∧
    (c.op = 0x10 → decode c = .ok (.rtcTunpk
      { b0 := c.a.extractLsb' 0 8, b1 := c.a.extractLsb' 8 8
        b2 := c.a.extractLsb' 16 8 })) ∧
    (c.op = 0x11 → decode c = .ok (.rtcTpack
      { seconds := c.a.extractLsb' 0 8, minutes := c.a.extractLsb' 8 8
        hours := c.a.extractLsb' 16 8 })) ∧
    (c.op = 0x12 → decode c = .ok (.rtcDunpk
      { b0 := c.a.extractLsb' 0 8, b1 := c.a.extractLsb' 8 8
        b2 := c.a.extractLsb' 16 8, b3 := c.a.extractLsb' 24 8 })) ∧
    (c.op = 0x13 → decode c = .ok (.rtcDpack
      { day := c.a.extractLsb' 0 8, weekday := c.a.extractLsb' 8 8
        month := c.a.extractLsb' 16 8, year := c.b.extractLsb' 0 16 })) ∧
    (c.op = 0x14 → decode c = .ok .rtcGett) ∧
    (c.op = 0x15 → decode c = .ok (.rtcSett
      { seconds := c.a.extractLsb' 0 8, minutes := c.a.extractLsb' 8 8
        hours := c.a.extractLsb' 16 8 })) ∧
    (c.op = 0x16 → decode c = .ok .rtcGetd) ∧
    (c.op = 0x17 → decode c = .ok (.rtcSetd
      { day := c.a.extractLsb' 0 8, weekday := c.a.extractLsb' 8 8
        month := c.a.extractLsb' 16 8, year := c.b.extractLsb' 0 16 })) ∧
    (c.op = 0x20 → decode c = .ok (.tchNorm
      { b0 := c.a.extractLsb' 0 8, b1 := c.a.extractLsb' 8 8
        b2 := c.a.extractLsb' 16 8, b3 := c.a.extractLsb' 24 8 })) ∧
    (c.op = 0x21 → decode c = .ok .tchPoll) ∧
    (c.op = 0x22 → decode c = .ok (.tchPoint (c.a.extractLsb' 0 8))) ∧
    (c.op = 0x30 → decode c = .ok (.toneCalc { freqHz := c.a, durationMs := c.b })) ∧
    (c.op = 0x31 → decode c = .ok (.tonePlay { freqHz := c.a, durationMs := c.b })) ∧
    (c.op = 0x40 → decode c = .ok .edClick) ∧
    (c.op = 0x41 → decode c = .ok (.edEdit (c.a.extractLsb' 0 8))) ∧
    (c.op = 0x42 → decode c = .ok .edTick))

/-- One command word of each unit: four of 95_test_vectors.md (V-BCD-16, V-RTC-24, V-TN-26, V-ED-9), and one for
TCH.POINT 3 with its ignored bits set, which is no vector but laid out from 30_encoding.md R81 and R82. -/
def Obligations.SampleWordsDecode : Prop :=
  decode (commandOfWord 0x020000003B00000000#72) = .ok (.bcdEnc 59) ∧
  decode (commandOfWord 0x13000C061F000007CF#72)
    = .ok (.rtcDpack { day := 31, weekday := 6, month := 12, year := 1999 }) ∧
  decode (commandOfWord 0x2245F22303FFFFFFFF#72) = .ok (.tchPoint 3) ∧
  decode (commandOfWord 0x31000001B800000064#72) = .ok (.tonePlay { freqHz := 440, durationMs := 100 }) ∧
  decode (commandOfWord 0x41000000FF00000000#72) = .ok (.edEdit 0xFF)

/-- 30_encoding.md R80, as the model runs a program (log 1): a step takes the first command presented and is
`exec` of the operation it decodes to. -/
def Obligations.StepRunsTheDecodedOperation : Prop :=
  ∀ (c : Command) (rest : List Command) (i : Instr) (s : State), s.commands = c :: rest → decode c = .ok i →
    step s = exec i { s with commands := rest }

/-- The model's reading of "the commands it issues are the block's only stimulus" (60_exceptions.md R221, log 2):
with no command presented a step changes nothing. -/
def Obligations.NoCommandNoChange : Prop :=
  ∀ s : State, s.commands = [] → step s = .next s

/-- 30_encoding.md R80 and 20_memory.md R63: a step takes exactly one command, leaves the rest in order, and
only adds to the primitives issued. -/
def Obligations.StepTakesOneCommandAndExtendsTheTrace : Prop :=
  ∀ s t : State, step s = .next t → t.commands = s.commands.tail ∧ s.trace <+: t.trace
end

