-- ==== Sys2Proof/Laws/State.lean ====
section
/-! SUPPORT. One lemma per field per update of the state, so that no later proof unfolds an update. -/

namespace Sys2Proof.Machine

@[simp] theorem State.complete_mode (r0 r1 : Word32) (s : State) : (s.complete r0 r1).mode = s.mode := rfl
@[simp] theorem State.complete_wt (r0 r1 : Word32) (s : State) : (s.complete r0 r1).wt = s.wt := rfl
@[simp] theorem State.complete_wd (r0 r1 : Word32) (s : State) : (s.complete r0 r1).wd = s.wd := rfl
@[simp] theorem State.complete_tg (r0 r1 : Word32) (s : State) : (s.complete r0 r1).tg = s.tg := rfl
@[simp] theorem State.complete_cfg (r0 r1 : Word32) (s : State) : (s.complete r0 r1).cfg = s.cfg := rfl
@[simp] theorem State.complete_response (r0 r1 : Word32) (s : State) : (s.complete r0 r1).response = some (.ok r0 r1) := rfl
@[simp] theorem State.complete_commands (r0 r1 : Word32) (s : State) : (s.complete r0 r1).commands = s.commands := rfl
@[simp] theorem State.complete_rtcRegs (r0 r1 : Word32) (s : State) : (s.complete r0 r1).rtcRegs = s.rtcRegs := rfl
@[simp] theorem State.complete_tchRegs (r0 r1 : Word32) (s : State) : (s.complete r0 r1).tchRegs = s.tchRegs := rfl
@[simp] theorem State.complete_replies (r0 r1 : Word32) (s : State) : (s.complete r0 r1).replies = s.replies := rfl
@[simp] theorem State.complete_draws (r0 r1 : Word32) (s : State) : (s.complete r0 r1).draws = s.draws := rfl
@[simp] theorem State.complete_yearDraws (r0 r1 : Word32) (s : State) : (s.complete r0 r1).yearDraws = s.yearDraws := rfl
@[simp] theorem State.complete_trace (r0 r1 : Word32) (s : State) : (s.complete r0 r1).trace = s.trace := rfl

@[simp] theorem State.raise_mode (e : ErrorCode) (s : State) : (s.raise e).mode = s.mode := rfl
@[simp] theorem State.raise_wt (e : ErrorCode) (s : State) : (s.raise e).wt = s.wt := rfl
@[simp] theorem State.raise_wd (e : ErrorCode) (s : State) : (s.raise e).wd = s.wd := rfl
@[simp] theorem State.raise_tg (e : ErrorCode) (s : State) : (s.raise e).tg = s.tg := rfl
@[simp] theorem State.raise_cfg (e : ErrorCode) (s : State) : (s.raise e).cfg = s.cfg := rfl
@[simp] theorem State.raise_response (e : ErrorCode) (s : State) : (s.raise e).response = some (.error e) := rfl
@[simp] theorem State.raise_commands (e : ErrorCode) (s : State) : (s.raise e).commands = s.commands := rfl
@[simp] theorem State.raise_rtcRegs (e : ErrorCode) (s : State) : (s.raise e).rtcRegs = s.rtcRegs := rfl
@[simp] theorem State.raise_tchRegs (e : ErrorCode) (s : State) : (s.raise e).tchRegs = s.tchRegs := rfl
@[simp] theorem State.raise_replies (e : ErrorCode) (s : State) : (s.raise e).replies = s.replies := rfl
@[simp] theorem State.raise_draws (e : ErrorCode) (s : State) : (s.raise e).draws = s.draws := rfl
@[simp] theorem State.raise_yearDraws (e : ErrorCode) (s : State) : (s.raise e).yearDraws = s.yearDraws := rfl
@[simp] theorem State.raise_trace (e : ErrorCode) (s : State) : (s.raise e).trace = s.trace := rfl

@[simp] theorem State.finish_mode (ok : Bool) (e : ErrorCode) (s : State) : (s.finish ok e).mode = s.mode := rfl
@[simp] theorem State.finish_wt (ok : Bool) (e : ErrorCode) (s : State) : (s.finish ok e).wt = s.wt := rfl
@[simp] theorem State.finish_wd (ok : Bool) (e : ErrorCode) (s : State) : (s.finish ok e).wd = s.wd := rfl
@[simp] theorem State.finish_tg (ok : Bool) (e : ErrorCode) (s : State) : (s.finish ok e).tg = s.tg := rfl
@[simp] theorem State.finish_cfg (ok : Bool) (e : ErrorCode) (s : State) : (s.finish ok e).cfg = s.cfg := rfl
@[simp] theorem State.finish_response (ok : Bool) (e : ErrorCode) (s : State) : (s.finish ok e).response = if ok then some (.ok 0 0) else some (.error e) := rfl
@[simp] theorem State.finish_commands (ok : Bool) (e : ErrorCode) (s : State) : (s.finish ok e).commands = s.commands := rfl
@[simp] theorem State.finish_rtcRegs (ok : Bool) (e : ErrorCode) (s : State) : (s.finish ok e).rtcRegs = s.rtcRegs := rfl
@[simp] theorem State.finish_tchRegs (ok : Bool) (e : ErrorCode) (s : State) : (s.finish ok e).tchRegs = s.tchRegs := rfl
@[simp] theorem State.finish_replies (ok : Bool) (e : ErrorCode) (s : State) : (s.finish ok e).replies = s.replies := rfl
@[simp] theorem State.finish_draws (ok : Bool) (e : ErrorCode) (s : State) : (s.finish ok e).draws = s.draws := rfl
@[simp] theorem State.finish_yearDraws (ok : Bool) (e : ErrorCode) (s : State) : (s.finish ok e).yearDraws = s.yearDraws := rfl
@[simp] theorem State.finish_trace (ok : Bool) (e : ErrorCode) (s : State) : (s.finish ok e).trace = s.trace := rfl

@[simp] theorem State.record_mode (x : Access) (s : State) : (s.record x).mode = s.mode := rfl
@[simp] theorem State.record_wt (x : Access) (s : State) : (s.record x).wt = s.wt := rfl
@[simp] theorem State.record_wd (x : Access) (s : State) : (s.record x).wd = s.wd := rfl
@[simp] theorem State.record_tg (x : Access) (s : State) : (s.record x).tg = s.tg := rfl
@[simp] theorem State.record_cfg (x : Access) (s : State) : (s.record x).cfg = s.cfg := rfl
@[simp] theorem State.record_response (x : Access) (s : State) : (s.record x).response = s.response := rfl
@[simp] theorem State.record_commands (x : Access) (s : State) : (s.record x).commands = s.commands := rfl
@[simp] theorem State.record_rtcRegs (x : Access) (s : State) : (s.record x).rtcRegs = s.rtcRegs := rfl
@[simp] theorem State.record_tchRegs (x : Access) (s : State) : (s.record x).tchRegs = s.tchRegs := rfl
@[simp] theorem State.record_replies (x : Access) (s : State) : (s.record x).replies = s.replies := rfl
@[simp] theorem State.record_draws (x : Access) (s : State) : (s.record x).draws = s.draws := rfl
@[simp] theorem State.record_yearDraws (x : Access) (s : State) : (s.record x).yearDraws = s.yearDraws := rfl
@[simp] theorem State.record_trace (x : Access) (s : State) : (s.record x).trace = s.trace ++ [x] := rfl

@[simp] theorem State.packedYear_mode (d : Date) (s : State) : (s.packedYear d).mode = s.mode := rfl
@[simp] theorem State.packedYear_wt (d : Date) (s : State) : (s.packedYear d).wt = s.wt := rfl
@[simp] theorem State.packedYear_wd (d : Date) (s : State) : (s.packedYear d).wd = s.wd := rfl
@[simp] theorem State.packedYear_tg (d : Date) (s : State) : (s.packedYear d).tg = s.tg := rfl
@[simp] theorem State.packedYear_cfg (d : Date) (s : State) : (s.packedYear d).cfg = s.cfg := rfl
@[simp] theorem State.packedYear_response (d : Date) (s : State) : (s.packedYear d).response = s.response := rfl
@[simp] theorem State.packedYear_commands (d : Date) (s : State) : (s.packedYear d).commands = s.commands := rfl
@[simp] theorem State.packedYear_rtcRegs (d : Date) (s : State) : (s.packedYear d).rtcRegs = s.rtcRegs := rfl
@[simp] theorem State.packedYear_tchRegs (d : Date) (s : State) : (s.packedYear d).tchRegs = s.tchRegs := rfl
@[simp] theorem State.packedYear_replies (d : Date) (s : State) : (s.packedYear d).replies = s.replies := rfl
@[simp] theorem State.packedYear_draws (d : Date) (s : State) : (s.packedYear d).draws = s.draws := rfl
@[simp] theorem State.packedYear_yearDraws (d : Date) (s : State) : (s.packedYear d).yearDraws = if d.year.toInt < 0 then s.yearDraws + 1 else s.yearDraws := rfl
@[simp] theorem State.packedYear_trace (d : Date) (s : State) : (s.packedYear d).trace = s.trace := rfl

@[simp] theorem State.drawn_mode (k : Nat) (s : State) : (s.drawn k).mode = s.mode := rfl
@[simp] theorem State.drawn_wt (k : Nat) (s : State) : (s.drawn k).wt = s.wt := rfl
@[simp] theorem State.drawn_wd (k : Nat) (s : State) : (s.drawn k).wd = s.wd := rfl
@[simp] theorem State.drawn_tg (k : Nat) (s : State) : (s.drawn k).tg = s.tg := rfl
@[simp] theorem State.drawn_cfg (k : Nat) (s : State) : (s.drawn k).cfg = s.cfg := rfl
@[simp] theorem State.drawn_response (k : Nat) (s : State) : (s.drawn k).response = s.response := rfl
@[simp] theorem State.drawn_commands (k : Nat) (s : State) : (s.drawn k).commands = s.commands := rfl
@[simp] theorem State.drawn_rtcRegs (k : Nat) (s : State) : (s.drawn k).rtcRegs = s.rtcRegs := rfl
@[simp] theorem State.drawn_tchRegs (k : Nat) (s : State) : (s.drawn k).tchRegs = s.tchRegs := rfl
@[simp] theorem State.drawn_replies (k : Nat) (s : State) : (s.drawn k).replies = s.replies.drop k := rfl
@[simp] theorem State.drawn_draws (k : Nat) (s : State) : (s.drawn k).draws = s.draws + (k - s.replies.length) := rfl
@[simp] theorem State.drawn_yearDraws (k : Nat) (s : State) : (s.drawn k).yearDraws = s.yearDraws := rfl
@[simp] theorem State.drawn_trace (k : Nat) (s : State) : (s.drawn k).trace = s.trace := rfl

@[simp] theorem State.setRegs_mode (sp : Space) (m : List Host.Cell) (s : State) : (s.setRegs sp m).mode = s.mode := rfl
@[simp] theorem State.setRegs_wt (sp : Space) (m : List Host.Cell) (s : State) : (s.setRegs sp m).wt = s.wt := rfl
@[simp] theorem State.setRegs_wd (sp : Space) (m : List Host.Cell) (s : State) : (s.setRegs sp m).wd = s.wd := rfl
@[simp] theorem State.setRegs_tg (sp : Space) (m : List Host.Cell) (s : State) : (s.setRegs sp m).tg = s.tg := rfl
@[simp] theorem State.setRegs_cfg (sp : Space) (m : List Host.Cell) (s : State) : (s.setRegs sp m).cfg = s.cfg := rfl
@[simp] theorem State.setRegs_response (sp : Space) (m : List Host.Cell) (s : State) : (s.setRegs sp m).response = s.response := rfl
@[simp] theorem State.setRegs_commands (sp : Space) (m : List Host.Cell) (s : State) : (s.setRegs sp m).commands = s.commands := rfl
@[simp] theorem State.setRegs_replies (sp : Space) (m : List Host.Cell) (s : State) : (s.setRegs sp m).replies = s.replies := rfl
@[simp] theorem State.setRegs_draws (sp : Space) (m : List Host.Cell) (s : State) : (s.setRegs sp m).draws = s.draws := rfl
@[simp] theorem State.setRegs_yearDraws (sp : Space) (m : List Host.Cell) (s : State) : (s.setRegs sp m).yearDraws = s.yearDraws := rfl
@[simp] theorem State.setRegs_trace (sp : Space) (m : List Host.Cell) (s : State) : (s.setRegs sp m).trace = s.trace := rfl

@[simp] theorem State.deviceActs_mode (sp : Space) (cs : List (Byte × Byte)) (s : State) : (s.deviceActs sp cs).mode = s.mode := rfl
@[simp] theorem State.deviceActs_wt (sp : Space) (cs : List (Byte × Byte)) (s : State) : (s.deviceActs sp cs).wt = s.wt := rfl
@[simp] theorem State.deviceActs_wd (sp : Space) (cs : List (Byte × Byte)) (s : State) : (s.deviceActs sp cs).wd = s.wd := rfl
@[simp] theorem State.deviceActs_tg (sp : Space) (cs : List (Byte × Byte)) (s : State) : (s.deviceActs sp cs).tg = s.tg := rfl
@[simp] theorem State.deviceActs_cfg (sp : Space) (cs : List (Byte × Byte)) (s : State) : (s.deviceActs sp cs).cfg = s.cfg := rfl
@[simp] theorem State.deviceActs_response (sp : Space) (cs : List (Byte × Byte)) (s : State) : (s.deviceActs sp cs).response = s.response := rfl
@[simp] theorem State.deviceActs_commands (sp : Space) (cs : List (Byte × Byte)) (s : State) : (s.deviceActs sp cs).commands = s.commands := rfl
@[simp] theorem State.deviceActs_replies (sp : Space) (cs : List (Byte × Byte)) (s : State) : (s.deviceActs sp cs).replies = s.replies := rfl
@[simp] theorem State.deviceActs_draws (sp : Space) (cs : List (Byte × Byte)) (s : State) : (s.deviceActs sp cs).draws = s.draws := rfl
@[simp] theorem State.deviceActs_yearDraws (sp : Space) (cs : List (Byte × Byte)) (s : State) : (s.deviceActs sp cs).yearDraws = s.yearDraws := rfl
@[simp] theorem State.deviceActs_trace (sp : Space) (cs : List (Byte × Byte)) (s : State) : (s.deviceActs sp cs).trace = s.trace := rfl

@[simp] theorem State.setRegs_rtc_rtcRegs (m : List Host.Cell) (s : State) : (s.setRegs .rtc m).rtcRegs = m := rfl
@[simp] theorem State.setRegs_rtc_tchRegs (m : List Host.Cell) (s : State) :
    (s.setRegs .rtc m).tchRegs = s.tchRegs := rfl
@[simp] theorem State.setRegs_tch_rtcRegs (m : List Host.Cell) (s : State) :
    (s.setRegs .tch m).rtcRegs = s.rtcRegs := rfl
@[simp] theorem State.setRegs_tch_tchRegs (m : List Host.Cell) (s : State) : (s.setRegs .tch m).tchRegs = m := rfl
@[simp] theorem State.deviceActs_rtc_rtcRegs (cs : List (Byte × Byte)) (s : State) :
    (s.deviceActs .rtc cs).rtcRegs = Memory.change cs s.rtcRegs := rfl
@[simp] theorem State.deviceActs_rtc_tchRegs (cs : List (Byte × Byte)) (s : State) :
    (s.deviceActs .rtc cs).tchRegs = s.tchRegs := rfl
@[simp] theorem State.deviceActs_tch_rtcRegs (cs : List (Byte × Byte)) (s : State) :
    (s.deviceActs .tch cs).rtcRegs = s.rtcRegs := rfl
@[simp] theorem State.deviceActs_tch_tchRegs (cs : List (Byte × Byte)) (s : State) :
    (s.deviceActs .tch cs).tchRegs = Memory.change cs s.tchRegs := rfl
@[simp] theorem State.regs_rtc (s : State) : s.regs .rtc = s.rtcRegs := rfl
@[simp] theorem State.regs_tch (s : State) : s.regs .tch = s.tchRegs := rfl

@[simp] theorem statusPort_complete (r0 r1 : Word32) (s : State) : statusPort (s.complete r0 r1) = some 0 := rfl
@[simp] theorem resultPorts_complete (r0 r1 : Word32) (s : State) :
    resultPorts (s.complete r0 r1) = some (r0, r1) := rfl
@[simp] theorem statusPort_raise (e : ErrorCode) (s : State) : statusPort (s.raise e) = some (errorCode e) := rfl
@[simp] theorem resultPorts_raise (e : ErrorCode) (s : State) : resultPorts (s.raise e) = none := rfl
@[simp] theorem statusPort_finish (ok : Bool) (e : ErrorCode) (s : State) :
    statusPort (s.finish ok e) = some (if ok then 0 else errorCode e) := by cases ok <;> rfl
@[simp] theorem resultPorts_finish (ok : Bool) (e : ErrorCode) (s : State) :
    resultPorts (s.finish ok e) = if ok then some (0, 0) else none := by cases ok <;> rfl

end Sys2Proof.Machine
end

