-- ==== Sys2Proof/Laws/Memory.lean ====
section
/-! SUPPORT. The register lists: what reading after an update gives, and that every operation on them keeps
the canonical form. -/

namespace Sys2Proof.Machine

theorem Memory.get_set (m : List Host.Cell) (a x : Nat) (v : Byte) :
    Memory.get (Memory.set m a v) x = if x = a then some v else Memory.get m x := by
  induction m with
  | nil => simp [Memory.set, Memory.get]
  | cons c rest ih =>
    obtain ⟨y, w⟩ := c
    simp only [Memory.set]
    split
    · simp [Memory.get]
    · split
      · next h => subst h; by_cases hx : x = a <;> simp [Memory.get, hx]
      · next h => by_cases hx : x = y
                  · subst hx; simp [Memory.get, Ne.symm h]
                  · simp [Memory.get, hx, ih]

theorem Memory.mem_set (m : List Host.Cell) (a : Nat) (v : Byte) (c : Host.Cell)
    (h : c ∈ Memory.set m a v) : c = (a, v) ∨ c ∈ m := by
  induction m with
  | nil => exact .inl (by simpa [Memory.set] using h)
  | cons e rest ih =>
    obtain ⟨y, w⟩ := e
    simp only [Memory.set] at h
    split at h
    · simpa using h
    · split at h
      · rcases List.mem_cons.1 h with h | h
        · exact .inl h
        · exact .inr (List.mem_cons_of_mem _ h)
      · rcases List.mem_cons.1 h with h | h
        · exact .inr (by simp [h])
        · exact (ih h).imp id (List.mem_cons_of_mem _)

theorem Memory.set_wf {m : List Host.Cell} (hm : Memory.wf m) {a : Nat} (ha : a < 256) (v : Byte) :
    Memory.wf (Memory.set m a v) := by
  refine ⟨?_, fun c hc => ?_⟩
  · obtain ⟨hp, -⟩ := hm
    induction m with
    | nil => simp [Memory.set]
    | cons e rest ih =>
      obtain ⟨y, w⟩ := e
      obtain ⟨hy, hr⟩ := List.pairwise_cons.1 hp
      simp only [Memory.set]
      split
      · next h => exact List.pairwise_cons.2 ⟨fun c hc => (List.mem_cons.1 hc).elim
          (fun e => by subst e; exact h) (fun hc => Nat.lt_trans h (hy c hc)), hp⟩
      · split
        · next h => subst h; exact List.pairwise_cons.2 ⟨hy, hr⟩
        · next h h' =>
          refine List.pairwise_cons.2 ⟨fun c hc => ?_, ih hr⟩
          rcases Memory.mem_set rest a v c hc with rfl | hc
          · show y < a
            omega
          · exact hy c hc
  · rcases Memory.mem_set m a v c hc with rfl | hc
    · exact ha
    · exact hm.2 c hc

theorem Memory.change_wf {m : List Host.Cell} (hm : Memory.wf m) (cs : List (Byte × Byte)) :
    Memory.wf (Memory.change cs m) := by
  induction cs generalizing m with
  | nil => exact hm
  | cons c cs ih => exact ih (Memory.set_wf hm c.1.isLt c.2)

theorem Memory.store_wf (lands : Nat → Bool) (data : List Byte) :
    ∀ (i a : Nat) {m : List Host.Cell}, Memory.wf m → a + data.length ≤ 256 →
      Memory.wf (Memory.store lands data i a m) := by
  induction data with
  | nil => intro i a m hm _; exact hm
  | cons v vs ih =>
    intro i a m hm h
    simp only [List.length_cons] at h
    simp only [Memory.store]
    split
    · exact ih _ _ (Memory.set_wf hm (by omega) v) (by omega)
    · exact ih _ _ hm (by omega)

/-- A register outside a burst keeps its value. -/
theorem Memory.get_store_outside (lands : Nat → Bool) (data : List Byte) :
    ∀ (i a : Nat) (m : List Host.Cell) (x : Nat), x < a ∨ a + data.length ≤ x →
      Memory.get (Memory.store lands data i a m) x = Memory.get m x := by
  induction data with
  | nil => intro i a m x _; rfl
  | cons v vs ih =>
    intro i a m x h
    simp only [List.length_cons] at h
    simp only [Memory.store]
    rw [ih _ _ _ _ (by omega)]
    split
    · rw [Memory.get_set, if_neg (by omega)]
    · rfl

/-- A register inside a burst holds its byte if that byte landed, and its old value if it did not. -/
theorem Memory.get_store_inside (lands : Nat → Bool) (data : List Byte) :
    ∀ (i a : Nat) (m : List Host.Cell) (k : Nat) (hk : k < data.length),
      Memory.get (Memory.store lands data i a m) (a + k)
        = if lands (i + k) then some data[k] else Memory.get m (a + k) := by
  induction data with
  | nil => intro i a m k hk; simp at hk
  | cons v vs ih =>
    intro i a m k hk
    simp only [Memory.store]
    cases k with
    | zero =>
      rw [Memory.get_store_outside _ _ _ _ _ _ (by omega)]
      by_cases hl : lands i <;> simp [hl, Memory.get_set]
    | succ k =>
      have := ih (i + 1) (a + 1) (if lands i then Memory.set m a v else m) k (by simpa using hk)
      rw [show a + (k + 1) = a + 1 + k by omega, show i + (k + 1) = i + 1 + k by omega, this]
      by_cases hl : lands i
      · simp only [hl, if_true]
        rw [Memory.get_set, if_neg (show ¬ a + 1 + k = a by omega)]
        rfl
      · simp [hl]

/-- A device changes only the registers it names. -/
theorem Memory.get_change_outside (cs : List (Byte × Byte)) :
    ∀ (m : List Host.Cell) (x : Nat), (∀ c ∈ cs, c.1.toNat ≠ x) →
      Memory.get (Memory.change cs m) x = Memory.get m x := by
  induction cs with
  | nil => intro m x _; rfl
  | cons c cs ih =>
    intro m x h
    obtain ⟨a, v⟩ := c
    simp only [Memory.change]
    rw [ih _ _ (fun c hc => h c (List.mem_cons_of_mem _ hc)), Memory.get_set,
      if_neg (fun e => h (a, v) (by simp) e.symm)]

theorem reset_regsCanonical_lists : Memory.wf ([] : List Host.Cell) := by simp [Memory.wf]

end Sys2Proof.Machine
end

