-- ==== Sys2Proof/Laws/Ops.lean ====
section
/-! SUPPORT. For each shared operation, once, everything it can do. -/

namespace Sys2Proof.Machine

/-- Reading a device register depends on the register list of its space alone. -/
theorem State.deviceByte_congr {sp : Space} {s t : State} (h : t.regs sp = s.regs sp) (a : Nat) :
    t.deviceByte sp a = s.deviceByte sp a := by
  simp only [State.deviceByte, h]

theorem State.drawn_drawAt (j k : Nat) (s : State) : (s.drawn k).drawAt j = s.drawAt (k + j) := by
  have e : s.draws + (k - s.replies.length) + (j - (s.replies.length - k))
      = s.draws + (k + j - s.replies.length) ∨ k + j < s.replies.length := by omega
  simp only [State.drawAt, State.drawn_replies, State.drawn_draws, List.getElem?_drop, List.length_drop]
  rcases e with e | e
  · rw [e]
  · have h1 : s.draws + (k - s.replies.length) + (j - (s.replies.length - k)) = s.draws := by omega
    have h2 : s.draws + (k + j - s.replies.length) = s.draws := by omega
    rw [h1, h2]

theorem State.drawn_drawn (j k : Nat) (s : State) : (s.drawn k).drawn j = s.drawn (k + j) := by
  simp only [State.drawn, List.drop_drop, List.length_drop]
  congr 1
  omega

theorem State.answers_drawn {j k : Nat} {s : State} (h : s.answers (k + j)) : (s.drawn k).answers j := by
  intro r hr
  refine h r ?_
  rw [State.drawn_replies] at hr
  rw [List.take_add]
  exact List.mem_append_right _ hr

theorem State.answers_mono {j k : Nat} {s : State} (h : s.answers k) (hj : j ≤ k) : s.answers j := by
  intro r hr
  exact h r ((List.take_subset_take_left s.replies hj) hr)

/-- A primitive that is answered takes the next draw; one that is not has no outcome. -/
theorem takeReply_eq {s : State} (h : s.answers 1) : takeReply s = some (s.drawAt 0, s.drawn 1) := by
  unfold takeReply State.drawAt State.drawn
  cases hr : s.replies with
  | nil => simp
  | cons r rest =>
    cases r with
    | answer d => simp
    | silent => exact absurd rfl (h .silent (by simp [hr]))

theorem takeReply_silent {s : State} {rest : List Reply} (h : s.replies = .silent :: rest) :
    takeReply s = none := by
  simp [takeReply, h]

/-- Whatever the environment lines up, a draw changes nothing but the oracle's own fields. -/
theorem takeReply_some {s s1 : State} {d : Draw} (h : takeReply s = some (d, s1)) :
    d = s.drawAt 0 ∧ s1 = s.drawn 1 ∧ s.answers 1 := by
  unfold takeReply at h
  unfold State.drawAt State.drawn State.answers
  cases hr : s.replies with
  | nil => simp [hr] at h; simp [← h.1, ← h.2]
  | cons r rest =>
    cases r with
    | answer d' => simp [hr] at h; simp [← h.1, ← h.2]
    | silent => simp [hr] at h

/-- What a `MemRead` can do, once. -/
theorem memRead_some {sp : Space} {addr n : Nat} {s : State} {r : ReadAnswer} (h : memRead sp addr n s = some r) :
    s.answers 1 ∧ r.ok = (s.drawAt 0).ok
      ∧ r.buf = (fun i => ((s.drawn 1).deviceActs sp (s.drawAt 0).changes).deviceByte sp (addr + i))
      ∧ r.after = ((s.drawn 1).deviceActs sp (s.drawAt 0).changes).record
          (.memRead sp addr n (if r.ok then some ((List.range n).map r.buf) else none)) := by
  unfold memRead at h
  cases ht : takeReply s with
  | none => simp [ht] at h
  | some p =>
    obtain ⟨d, s1⟩ := p
    obtain ⟨rfl, rfl, ha⟩ := takeReply_some ht
    simp only [ht, Option.some.injEq] at h
    subst h
    exact ⟨ha, rfl, rfl, rfl⟩

theorem memRead_of_answers (sp : Space) (addr n : Nat) {s : State} (h : s.answers 1) :
    ∃ r, memRead sp addr n s = some r := by
  simp [memRead, takeReply_eq h]

theorem memRead_silent (sp : Space) (addr n : Nat) {s : State} {rest : List Reply}
    (h : s.replies = .silent :: rest) : memRead sp addr n s = none := by
  simp [memRead, takeReply_silent h]

/-- What a `MemWrite` can do, once. -/
theorem memWrite_some {addr : Nat} {data : List Byte} {s : State} {w : Answer} (h : memWrite addr data s = some w) :
    s.answers 1 ∧ w.ok = (s.drawAt 0).ok
      ∧ w.after = (((s.drawn 1).deviceActs .rtc (s.drawAt 0).changes).setRegs .rtc
          (Memory.store (fun i => (s.drawAt 0).ok || (s.drawAt 0).landed.getLsbD i) data 0 addr
            (Memory.change (s.drawAt 0).changes s.rtcRegs))).record (.memWrite .rtc addr data w.ok) := by
  unfold memWrite at h
  cases ht : takeReply s with
  | none => simp [ht] at h
  | some p =>
    obtain ⟨d, s1⟩ := p
    obtain ⟨rfl, rfl, ha⟩ := takeReply_some ht
    simp only [ht, Option.some.injEq] at h
    subst h
    exact ⟨ha, rfl, rfl⟩

theorem memWrite_of_answers (addr : Nat) (data : List Byte) {s : State} (h : s.answers 1) :
    ∃ w, memWrite addr data s = some w := by
  simp [memWrite, takeReply_eq h]

theorem memWrite_silent (addr : Nat) (data : List Byte) {s : State} {rest : List Reply}
    (h : s.replies = .silent :: rest) : memWrite addr data s = none := by
  simp [memWrite, takeReply_silent h]

/-- What a `PtStop` can do, once. -/
theorem ptStop_some {s : State} {w : Answer} (h : ptStop s = some w) :
    s.answers 1 ∧ w.ok = (s.drawAt 0).ok ∧ w.after = (s.drawn 1).record (.ptStop w.ok) := by
  unfold ptStop at h
  cases ht : takeReply s with
  | none => simp [ht] at h
  | some p =>
    obtain ⟨d, s1⟩ := p
    obtain ⟨rfl, rfl, ha⟩ := takeReply_some ht
    simp only [ht, Option.some.injEq] at h
    subst h
    exact ⟨ha, rfl, rfl⟩

theorem ptStop_of_answers {s : State} (h : s.answers 1) : ∃ w, ptStop s = some w := by
  simp [ptStop, takeReply_eq h]

theorem ptStop_silent {s : State} {rest : List Reply} (h : s.replies = .silent :: rest) : ptStop s = none := by
  simp [ptStop, takeReply_silent h]

/-- What a `PtStart` can do, once. -/
theorem ptStart_some {p : PulseParams} {s : State} {w : Answer} (h : ptStart p s = some w) :
    s.answers 1 ∧ w.ok = (s.drawAt 0).ok ∧ w.after = (s.drawn 1).record (.ptStart p w.ok) := by
  unfold ptStart at h
  cases ht : takeReply s with
  | none => simp [ht] at h
  | some q =>
    obtain ⟨d, s1⟩ := q
    obtain ⟨rfl, rfl, ha⟩ := takeReply_some ht
    simp only [ht, Option.some.injEq] at h
    subst h
    exact ⟨ha, rfl, rfl⟩

theorem ptStart_of_answers (p : PulseParams) {s : State} (h : s.answers 1) : ∃ w, ptStart p s = some w := by
  simp [ptStart, takeReply_eq h]

theorem ptStart_silent (p : PulseParams) {s : State} {rest : List Reply} (h : s.replies = .silent :: rest) :
    ptStart p s = none := by
  simp [ptStart, takeReply_silent h]

/-- Taking a command takes exactly the first one and touches nothing else. -/
theorem fetchCommand_some {s s' : State} {c : Command} (h : fetchCommand s = some (c, s')) :
    ∃ rest, s.commands = c :: rest ∧ s' = { s with commands := rest } := by
  unfold fetchCommand at h
  cases hc : s.commands with
  | nil => simp [hc] at h
  | cons c' rest =>
    simp only [hc, Option.some.injEq, Prod.mk.injEq] at h
    exact ⟨rest, by rw [h.1], h.2.symm⟩

/-- A command that does not decode ends in IllegalOp, and nothing else changes. -/
theorem rejectCommand_eq (r : Reject) (s : State) : rejectCommand r s = s.raise .illegalOp := by
  cases r; rfl

end Sys2Proof.Machine
end

