-- ==== Sys2Proof/Laws/PerInstr.lean ====
section
/-! SUPPORT. Families of statements about every operation as syntax, one lemma per constructor. -/

namespace Sys2Proof.Laws

open Sys2Proof.Machine

/-- "Unused operand bits are written as zero" (30_encoding.md R85): the command of an operation sets no operand
bit that its format does not name. -/
def UnusedBitsAreZero.Statement (i : Instr) : Prop :=
  (encode i).a &&& ~~~ namedA i = 0 ∧ (encode i).b &&& ~~~ namedB i = 0

/-- One byte on a port leaves the bits above it clear. -/
theorem portBytes_one (b0 : Byte) : portBytes b0 0 0 0 &&& ~~~ (0x000000FF : Word32) = 0 := by
  ext i hi
  simp only [portBytes, BitVec.getElem_and, BitVec.getElem_append, BitVec.getElem_not]
  interval_cases i <;> simp

/-- Three bytes on a port leave the bits above them clear. -/
theorem portBytes_three (b0 b1 b2 : Byte) : portBytes b0 b1 b2 0 &&& ~~~ (0x00FFFFFF : Word32) = 0 := by
  ext i hi
  simp only [portBytes, BitVec.getElem_and, BitVec.getElem_append, BitVec.getElem_not]
  interval_cases i <;> simp

/-- A port that names every bit has no bit left to clear. -/
theorem and_not_ones (w : Word32) : w &&& ~~~ (0xFFFFFFFF : Word32) = 0 := by
  rw [show ~~~ (0xFFFFFFFF : Word32) = 0 by decide]
  exact BitVec.and_zero

/-- An empty port stays empty. -/
theorem zero_port (w : Word32) : (0 : Word32) &&& w = 0 := BitVec.zero_and

/-- The year leaves the upper half of its port clear. -/
theorem year_port (y : Word16) : (((0 : Word16) ++ y : BitVec 32)) &&& ~~~ (0x0000FFFF : Word32) = 0 := by
  ext i hi
  simp only [BitVec.getElem_and, BitVec.getElem_append, BitVec.getElem_not]
  interval_cases i <;> simp

theorem UnusedBitsAreZero.bcdDec (v : Byte) : UnusedBitsAreZero.Statement (.bcdDec v) :=
  ⟨portBytes_one v, zero_port _⟩
theorem UnusedBitsAreZero.bcdEnc (v : Byte) : UnusedBitsAreZero.Statement (.bcdEnc v) :=
  ⟨portBytes_one v, zero_port _⟩
theorem UnusedBitsAreZero.rtcTunpk (buf : Buf3) : UnusedBitsAreZero.Statement (.rtcTunpk buf) :=
  ⟨portBytes_three _ _ _, zero_port _⟩
theorem UnusedBitsAreZero.rtcTpack (t : Time) : UnusedBitsAreZero.Statement (.rtcTpack t) :=
  ⟨portBytes_three _ _ _, zero_port _⟩
theorem UnusedBitsAreZero.rtcDunpk (buf : Buf4) : UnusedBitsAreZero.Statement (.rtcDunpk buf) :=
  ⟨and_not_ones _, zero_port _⟩
theorem UnusedBitsAreZero.rtcDpack (d : Date) : UnusedBitsAreZero.Statement (.rtcDpack d) :=
  ⟨portBytes_three _ _ _, year_port _⟩
theorem UnusedBitsAreZero.rtcGett : UnusedBitsAreZero.Statement .rtcGett := ⟨zero_port _, zero_port _⟩
theorem UnusedBitsAreZero.rtcSett (t : Time) : UnusedBitsAreZero.Statement (.rtcSett t) :=
  ⟨portBytes_three _ _ _, zero_port _⟩
theorem UnusedBitsAreZero.rtcGetd : UnusedBitsAreZero.Statement .rtcGetd := ⟨zero_port _, zero_port _⟩
theorem UnusedBitsAreZero.rtcSetd (d : Date) : UnusedBitsAreZero.Statement (.rtcSetd d) :=
  ⟨portBytes_three _ _ _, year_port _⟩
theorem UnusedBitsAreZero.tchNorm (buf : Buf4) : UnusedBitsAreZero.Statement (.tchNorm buf) :=
  ⟨and_not_ones _, zero_port _⟩
theorem UnusedBitsAreZero.tchPoll : UnusedBitsAreZero.Statement .tchPoll := ⟨zero_port _, zero_port _⟩
theorem UnusedBitsAreZero.tchPoint (n : Byte) : UnusedBitsAreZero.Statement (.tchPoint n) :=
  ⟨portBytes_one n, zero_port _⟩
theorem UnusedBitsAreZero.toneCalc (q : ToneRequest) : UnusedBitsAreZero.Statement (.toneCalc q) :=
  ⟨and_not_ones _, and_not_ones _⟩
theorem UnusedBitsAreZero.tonePlay (q : ToneRequest) : UnusedBitsAreZero.Statement (.tonePlay q) :=
  ⟨and_not_ones _, and_not_ones _⟩
theorem UnusedBitsAreZero.edClick : UnusedBitsAreZero.Statement .edClick := ⟨zero_port _, zero_port _⟩
theorem UnusedBitsAreZero.edEdit (delta : Byte) : UnusedBitsAreZero.Statement (.edEdit delta) :=
  ⟨portBytes_one delta, zero_port _⟩
theorem UnusedBitsAreZero.edTick : UnusedBitsAreZero.Statement .edTick := ⟨zero_port _, zero_port _⟩

end Sys2Proof.Laws
end

