-- ==== Sys2Proof/Laws/Units.lean ====
section
/-! SUPPORT. For each shared computation of the five units, once, what it gives: the codec as numbers, bytes on
a port as a number, one access that is answered, the start of a transmission. -/

namespace Sys2Proof.Machine

/-! ### The codec -/

/-- The subtraction loop divides by ten. -/
theorem subtractTens_eq (fuel : Nat) :
    ∀ v tens : Nat, v < 10 * (fuel + 1) → subtractTens fuel v tens = (v % 10, tens + v / 10) := by
  induction fuel with
  | zero =>
    intro v tens h
    simp only [subtractTens]
    rw [Nat.mod_eq_of_lt (by omega), Nat.div_eq_of_lt (by omega)]
    rfl
  | succ fuel ih =>
    intro v tens h
    simp only [subtractTens]
    split
    · rw [ih _ _ (by omega)]
      exact Prod.ext (by simp only; omega) (by simp only; omega)
    · rw [Nat.mod_eq_of_lt (by omega), Nat.div_eq_of_lt (by omega)]
      rfl

theorem bcdDecode_toNat : ∀ b : Byte, (bcdDecode b).toNat = bcdValue b.toNat := by decide

theorem bcdEncode_toNat (v : Byte) : (bcdEncode v).toNat = bcdDigits v.toNat := by
  have hv := v.isLt
  simp only [bcdEncode, subtractTens_eq 25 v.toNat 0 (by omega), Nat.zero_add, BitVec.toNat_ofNat, bcdDigits]
  rw [← Nat.shiftLeft_add_eq_or_of_lt (by omega), Nat.shiftLeft_eq]

/-! ### Bytes on a port -/

theorem portByte_toNat (k : Nat) (w : Word32) : (portByte k w).toNat = byteOf k w := by
  simp only [portByte, byteOf, BitVec.extractLsb'_toNat, Nat.shiftRight_eq_div_pow]
  rw [Nat.pow_mul]

theorem append_toNat {m n : Nat} (x : BitVec m) (y : BitVec n) : (x ++ y).toNat = x.toNat * 2 ^ n + y.toNat := by
  rw [BitVec.toNat_append, ← Nat.shiftLeft_add_eq_or_of_lt y.isLt, Nat.shiftLeft_eq]

theorem portBytes_toNat (a b c d : Byte) :
    (portBytes a b c d).toNat = a.toNat + b.toNat * 2 ^ 8 + c.toNat * 2 ^ 16 + d.toNat * 2 ^ 24 := by
  simp only [portBytes, append_toNat]
  omega

theorem portBytes_eq (a b c d : Byte) : portBytes a b c d = portOf a.toNat b.toNat c.toNat d.toNat := by
  apply BitVec.eq_of_toNat_eq
  have := a.isLt; have := b.isLt; have := c.isLt; have := d.isLt
  rw [portBytes_toNat, portOf, BitVec.toNat_ofNat, Nat.mod_eq_of_lt (by omega)]

/-! ### One access that is answered -/

theorem memRead_eq (sp : Space) (addr n : Nat) {s : State} (h : s.answers 1) :
    memRead sp addr n s = some
      { ok := (s.drawAt 0).ok
        buf := fun i => (s.atAccess sp 0).deviceByte sp (addr + i)
        after := ((s.atAccess sp 0).drawn 1).record (.memRead sp addr n
          (if (s.drawAt 0).ok then
            some ((List.range n).map fun i => (s.atAccess sp 0).deviceByte sp (addr + i)) else none)) } := by
  simp only [memRead, takeReply_eq h]
  cases sp <;> rfl

theorem memWrite_eq (addr : Nat) (data : List Byte) {s : State} (h : s.answers 1) :
    memWrite addr data s = some
      { ok := (s.drawAt 0).ok
        after := (((s.atAccess .rtc 0).drawn 1).setRegs .rtc
          (Memory.store (fun i => (s.drawAt 0).ok || (s.drawAt 0).landed.getLsbD i) data 0 addr
            (s.atAccess .rtc 0).rtcRegs)).record (.memWrite .rtc addr data (s.drawAt 0).ok) } := by
  simp only [memWrite, takeReply_eq h]
  rfl

/-! ### The tone generator -/

/-- What starting a transmission can do, once. -/
theorem transmit_next {p : PulseParams} {s t : State} (h : transmit p s = .next t) :
    s.answers 1 ∧ t = { s.drawn 1 with
      tg := if (s.drawAt 0).ok then .active else .idle
      response := if (s.drawAt 0).ok then some (.ok 0 0) else some (.error .txError)
      trace := s.trace ++ [.ptStart p (s.drawAt 0).ok] } := by
  unfold transmit at h
  split at h
  · cases h
  · next w hw =>
    obtain ⟨ha, hok, haf⟩ := ptStart_some hw
    cases h
    refine ⟨ha, ?_⟩
    rw [← hok, haf]
    rfl

end Sys2Proof.Machine
end

