-- ==== Sys2Proof/Tests/Slice0.lean ====
section
/-! SUPPORT. Tests of single steps, each with its expected result from spec/95_test_vectors.md (its vector is
named) or from a rule worked by hand, and for every obligation with hypotheses a state that meets them. -/

namespace Sys2Proof.Tests

open Sys2Proof.Machine

/-! ### Helpers -/

/-- The environment answers, and the device has changed nothing of its own. -/
def good : Reply := .answer { ok := true, changes := [], landed := 0 }

/-- The environment fails the primitive; of a write only byte 0 reached its register. -/
def bad : Reply := .answer { ok := false, changes := [], landed := 1 }

/-- The parameter values that 95_test_vectors.md chooses for its vectors. -/
def inputs : ConfigInputs :=
  { rotation := 0, baseClock := 1000000, maxLoopCount := 1023, touchCountReg := 0x02, touchP0Base := 0x03 }

/-- A block with the start values of program P5 and two primitives answered. -/
def board : State :=
  { mode := .run
    wt := { hours := 0, minutes := 0, seconds := 0 }
    wd := { day := 1, month := 1, weekday := 0, year := 2000 }
    tg := .idle
    cfg := inputs
    response := none
    commands := []
    rtcRegs := [(2, 0x58), (3, 0x59), (4, 0x23), (5, 0x31), (6, 0x06), (7, 0x92), (8, 0x99)]
    tchRegs := [(2, 0xF2), (9, 0x0F), (10, 0xFF), (11, 0x00), (12, 0x00)]
    replies := [good, good]
    draws := 0
    yearDraws := 0
    trace := [] }

/-- A block in an edit mode with a running tone, as V-ED-45 has it. -/
def editing : State :=
  { board with
    mode := .editHours
    wt := { hours := 8, minutes := 30, seconds := 15 }
    wd := { day := 8, month := 11, weekday := 0, year := 2026 }
    tg := .active
    trace := [.ptStart { high := 500, low := 500, repeatCount := 1 } true] }

/-- One step on the 72-bit command word of 30_encoding.md R80. -/
def run (s : State) (w : BitVec 72) : Host.Outcome State Fault Refusal :=
  step { s with commands := [commandOfWord w] }

/-- A view of the next state. -/
def after {α : Type} (o : Host.Outcome State Fault Refusal) (f : State → α) : Option α :=
  match o with
  | .next s => some (f s)
  | .fault _ => none
  | .refused _ => none

/-- The fault of a step. -/
def faultOf (o : Host.Outcome State Fault Refusal) : Option Fault :=
  match o with
  | .next _ => none
  | .fault r => some r
  | .refused _ => none

/-! ### Well-formedness: the one check of 30_encoding.md R84 -/

theorem test_wellFormed_refuses_point_4 : (Instr.tchPoint 4).wellFormed = false := by decide
theorem test_wellFormed_refuses_point_255 : (Instr.tchPoint 255).wellFormed = false := by decide
theorem test_wellFormed_accepts_point_3 : (Instr.tchPoint 3).wellFormed = true := by decide

/-! ### Decoding: one word of 95_test_vectors.md for every constructor -/

/-- V-BCD-12, unused bits set. -/
theorem test_decode_bcdDec : (decode (commandOfWord 0x01FFFFFF59FFFFFFFF#72)).toOption = some (.bcdDec 0x59) := by decide
/-- V-BCD-25, bit 8 ignored. -/
theorem test_decode_bcdEnc : (decode (commandOfWord 0x020000013B00000000#72)).toOption = some (.bcdEnc 59) := by decide
/-- V-RTC-1. -/
theorem test_decode_rtcTunpk : (decode (commandOfWord 0x100023595800000000#72)).toOption
    = some (.rtcTunpk { b0 := 0x58, b1 := 0x59, b2 := 0x23 }) := by decide
/-- V-RTC-8. -/
theorem test_decode_rtcTpack : (decode (commandOfWord 0x1100173B3A00000000#72)).toOption
    = some (.rtcTpack { hours := 23, minutes := 59, seconds := 58 }) := by decide
/-- V-RTC-15. -/
theorem test_decode_rtcDunpk : (decode (commandOfWord 0x129992063100000000#72)).toOption
    = some (.rtcDunpk { b0 := 0x31, b1 := 0x06, b2 := 0x92, b3 := 0x99 }) := by decide
/-- V-RTC-24. -/
theorem test_decode_rtcDpack : (decode (commandOfWord 0x13000C061F000007CF#72)).toOption
    = some (.rtcDpack { day := 31, weekday := 6, month := 12, year := 1999 }) := by decide
/-- V-RTC-36. -/
theorem test_decode_rtcGett : (decode (commandOfWord 0x140000000000000000#72)).toOption = some .rtcGett := by decide
/-- V-RTC-39. -/
theorem test_decode_rtcSett : (decode (commandOfWord 0x1500173B3A00000000#72)).toOption
    = some (.rtcSett { hours := 23, minutes := 59, seconds := 58 }) := by decide
/-- V-RTC-44. -/
theorem test_decode_rtcGetd : (decode (commandOfWord 0x160000000000000000#72)).toOption = some .rtcGetd := by decide
/-- V-RTC-47. -/
theorem test_decode_rtcSetd : (decode (commandOfWord 0x170006020F00000866#72)).toOption
    = some (.rtcSetd { day := 15, weekday := 2, month := 6, year := 2150 }) := by decide
/-- V-TCH-1. -/
theorem test_decode_tchNorm : (decode (commandOfWord 0x204502230100000000#72)).toOption
    = some (.tchNorm { b0 := 0x01, b1 := 0x23, b2 := 0x02, b3 := 0x45 }) := by decide
/-- V-TCH-8. -/
theorem test_decode_tchPoll : (decode (commandOfWord 0x210000000000000000#72)).toOption = some .tchPoll := by decide
/-- V-TCH-23, unused bits set. -/
theorem test_decode_tchPoint : (decode (commandOfWord 0x22ABCDEF0112345678#72)).toOption = some (.tchPoint 1) := by decide
/-- V-TN-5. -/
theorem test_decode_toneCalc : (decode (commandOfWord 0x300000014D000001F4#72)).toOption
    = some (.toneCalc { freqHz := 333, durationMs := 500 }) := by decide
/-- V-TN-25. -/
theorem test_decode_tonePlay : (decode (commandOfWord 0x31000003E8000007D0#72)).toOption
    = some (.tonePlay { freqHz := 1000, durationMs := 2000 }) := by decide
/-- V-ED-1. -/
theorem test_decode_edClick : (decode (commandOfWord 0x400000000000000000#72)).toOption = some .edClick := by decide
/-- V-ED-9. -/
theorem test_decode_edEdit : (decode (commandOfWord 0x41000000FF00000000#72)).toOption = some (.edEdit 0xFF) := by decide
/-- V-ED-40. -/
theorem test_decode_edTick : (decode (commandOfWord 0x420000000000000000#72)).toOption = some .edTick := by decide

/-- Program P5, step 5. -/
theorem test_decode_rejects_7E : (decode (commandOfWord 0x7EDEADBEEF0BADF00D#72)).toOption = none := by decide
/-- V-RTC-24: the word written back. -/
theorem test_encode_rtcDpack :
    commandWord (encode (.rtcDpack { day := 31, weekday := 6, month := 12, year := 1999 }))
      = 0x13000C061F000007CF#72 := by decide
/-- 30_encoding.md R85: the year is the last operand, -1 in 16 bits. -/
theorem test_encode_negative_year :
    commandWord (encode (.rtcSetd { day := 1, weekday := 2, month := 3, year := -1 }))
      = 0x17000302010000FFFF#72 := by decide
/-- The opcode table's numbering (log 3): `op` alone, operands zero. -/
theorem test_tableWord_edEdit : decodeTableWord 8 0x41 = some (.edEdit 0) := by decide
/-- The opcode table's numbering (log 3): `a` from bit 8, `b` from bit 40. -/
theorem test_tableWord_operands :
    decodeTableWord 72 (0x30 + 333 * 2 ^ 8 + 500 * 2 ^ 40)
      = some (.toneCalc { freqHz := 333, durationMs := 500 }) := by decide
theorem test_tableWord_rejects_0 : decodeTableWord 8 0x00 = none := by decide
theorem test_withFetchWord_runs_edClick :
    after (step (board.withFetchWord 8 0x40)) (fun s => (s.mode, s.commands)) = some (.editHours, []) := by decide

/-! ### One step of each operation -/

/-- V-BCD-7. -/
theorem test_bcdDec_1F : after (run board 0x010000001F00000000#72) (·.response) = some (some (.ok 25 0)) := by decide
/-- V-BCD-11. -/
theorem test_bcdDec_FF : after (run board 0x01000000FF00000000#72) (·.response) = some (some (.ok 165 0)) := by decide
/-- V-BCD-16. -/
theorem test_bcdEnc_59 : after (run board 0x020000003B00000000#72) (·.response) = some (some (.ok 0x59 0)) := by decide
/-- V-BCD-24. -/
theorem test_bcdEnc_255 : after (run board 0x02000000FF00000000#72) (·.response) = some (some (.ok 0x95 0)) := by decide
/-- V-RTC-2. -/
theorem test_rtcTunpk_masks : after (run board 0x1000E3D9D800000000#72) (·.response)
    = some (some (.ok 0x00173B3A 0)) := by decide
/-- V-RTC-3. -/
theorem test_rtcTunpk_ones : after (run board 0x1000FFFFFF00000000#72) (·.response)
    = some (some (.ok 0x002D5555 0)) := by decide
/-- V-RTC-8. -/
theorem test_rtcTpack_fields : after (run board 0x1100173B3A00000000#72) (·.response)
    = some (some (.ok 0x00235958 0)) := by decide
/-- V-RTC-12. -/
theorem test_rtcTpack_no_mask : after (run board 0x110063636300000000#72) (·.response)
    = some (some (.ok 0x00999999 0)) := by decide
/-- V-RTC-15. -/
theorem test_rtcDunpk_1999 : after (run board 0x129992063100000000#72) (·.response)
    = some (some (.ok 0x000C061F 0x000007CF)) := by decide
/-- V-RTC-18. -/
theorem test_rtcDunpk_masks : after (run board 0x120072F3C800000000#72) (·.response)
    = some (some (.ok 0x000C0308 0x000007D0)) := by decide
/-- V-RTC-30. -/
theorem test_rtcDpack_masks : after (run board 0x1300140A2800000834#72) (·.response)
    = some (some (.ok 0 0)) := by decide
/-- 41_rtc_decoder.md R118: the first three bytes of a negative year, whatever the fourth. -/
theorem test_rtcDpack_negative_year (free : Byte) :
    (datePack { day := 31, weekday := 6, month := 12, year := -1 } free).bytes = [0x31, 0x06, 0x92, free] := by rfl
/-- V-RTC-36. -/
theorem test_rtcGett_ok : after (run board 0x140000000000000000#72) (·.response)
    = some (some (.ok 0x00173B3A 0)) := by decide
/-- V-RTC-38. -/
theorem test_rtcGett_fails : after (run { board with replies := [bad] } 0x140000000000000000#72) (·.response)
    = some (some (.error .busError)) := by decide
/-- V-RTC-41. -/
theorem test_rtcSett_ok : after (run board 0x150050006300000000#72) (fun s => (s.response, s.timeRegs))
    = some (some (.ok 0 0), { b0 := 0x99, b1 := 0x00, b2 := 0x80 }) := by decide
/-- V-RTC-43 with 20_memory.md R53: byte 0 landed, the others did not. -/
theorem test_rtcSett_fails :
    after (run { board with replies := [bad] } 0x150001020300000000#72) (fun s => (s.response, s.timeRegs))
      = some (some (.error .busError), { b0 := 0x03, b1 := 0x59, b2 := 0x23 }) := by decide
/-- V-RTC-45. -/
theorem test_rtcGetd_ok : after (run board 0x160000000000000000#72) (·.response)
    = some (some (.ok 0x000C061F 0x000007CF)) := by decide
/-- V-RTC-46. -/
theorem test_rtcGetd_fails : after (run { board with replies := [bad] } 0x160000000000000000#72) (·.response)
    = some (some (.error .busError)) := by decide
/-- V-RTC-47. -/
theorem test_rtcSetd_ok : after (run board 0x170006020F00000866#72) (fun s => (s.response, s.dateRegs))
    = some (some (.ok 0 0), { b0 := 0x15, b1 := 0x02, b2 := 0x06, b3 := 0x50 }) := by decide
/-- V-RTC-49: one write, and it failed. -/
theorem test_rtcSetd_fails :
    after (run { board with replies := [bad] } 0x1700010101000007D0#72) (fun s => (s.response, s.trace))
      = some (some (.error .busError), [.memWrite .rtc 0x05 [0x01, 0x01, 0x01, 0x00] false]) := by decide
/-- V-TCH-4. -/
theorem test_tchNorm_masks : after (run board 0x2045F223F100000000#72) (·.response)
    = some (some (.ok 0x02450123 0)) := by decide
/-- V-TCH-6. -/
theorem test_tchNorm_swaps :
    after (run { board with cfg := { inputs with rotation := 1 } } 0x20FF0F000000000000#72) (·.response)
      = some (some (.ok 0x00000FFF 0)) := by decide
/-- V-TCH-10. -/
theorem test_tchPoll_masks : after (run board 0x210000000000000000#72) (·.response)
    = some (some (.ok 2 0)) := by decide
/-- V-TCH-12. -/
theorem test_tchPoll_fails : after (run { board with replies := [bad] } 0x210000000000000000#72) (·.response)
    = some (some (.error .busError)) := by decide
/-- V-TCH-14. -/
theorem test_tchPoint_1 : after (run board 0x220000000100000000#72) (·.response)
    = some (some (.ok 0x00000FFF 1)) := by decide
/-- V-TCH-22: the failing read is never issued. -/
theorem test_tchPoint_4 : after (run { board with replies := [bad] } 0x220000000400000000#72)
    (fun s => (s.response, s.trace, s.replies)) = some (some (.error .badPointIndex), [], [bad]) := by decide
/-- V-TN-5. -/
theorem test_toneCalc_odd_wavelength : after (run board 0x300000014D000001F4#72) (·.response)
    = some (some (.ok 0x05DE05DD 0xA6)) := by decide
/-- V-TN-20. -/
theorem test_toneCalc_no_overflow : after (run board 0x30FFFFFFFFFFFFFFFF#72) (·.response)
    = some (some (.error .durationTooLongForFreq)) := by decide
/-- V-TN-31. -/
theorem test_tonePlay_restart_fails :
    after (run { editing with replies := [good, bad], trace := [] } 0x31000001B800000064#72)
        (fun s => (s.tg, s.response, s.trace))
      = some (.idle, some (.error .txError),
          [.ptStop true, .ptStart { high := 1136, low := 1136, repeatCount := 44 } false]) := by decide
/-- V-TN-28. -/
theorem test_tonePlay_rejected_keeps_channel :
    after (run editing 0x310000000F00000064#72) (fun s => (s.tg, s.response, s.replies))
      = some (.active, some (.error .freqTooLow), [good, good]) := by decide
/-- V-ED-1. -/
theorem test_edClick_from_run : after (run board 0x400000000000000000#72) (·.mode) = some .editHours := by decide
/-- V-ED-6. -/
theorem test_edClick_from_year : after (run { board with mode := .editYear } 0x400000000000000000#72) (·.mode)
    = some .run := by decide
/-- V-ED-16. -/
theorem test_edEdit_day_31 : after (run { board with mode := .editDay, wd := { board.wd with day := 31 } }
    0x41000000FF00000000#72) (·.wd.day) = some 30 := by decide
/-- V-ED-36. -/
theorem test_edEdit_year_negative : after (run { board with mode := .editYear, wd := { board.wd with year := -5 } }
    0x410000000100000000#72) (·.wd.year) = some 2999 := by decide
/-- Program P5, step 6: the date half fails. -/
theorem test_edTick_pull_half : after (run { board with replies := [good, bad] } 0x420000000000000000#72)
    (fun s => (s.wt, s.wd, s.response))
      = some ({ hours := 23, minutes := 59, seconds := 58 }, board.wd, some (.error .busError)) := by decide
/-- V-ED-45. -/
theorem test_edTick_push : after (run editing 0x420000000000000000#72) (fun s => (s.response, s.timeRegs, s.dateRegs))
    = some (some (.ok 0 0), { b0 := 0x15, b1 := 0x30, b2 := 0x08 },
        { b0 := 0x08, b1 := 0x00, b2 := 0x11, b3 := 0x26 }) := by decide
/-- V-ERR-1. -/
theorem test_illegalOp : after (run editing 0x00123456789ABCDEF0#72) (fun s => { s with response := none })
    = some editing := by decide
/-- V-ERR-10: the code on the status port, and no result. -/
theorem test_illegalOp_status : after (run editing 0xFF123456789ABCDEF0#72) (fun s => (statusPort s, resultPorts s))
    = some (some 7, none) := by decide
/-- 10_state.md R26: the code of an Active channel on tg_o. -/
theorem test_tgPort_active : (tgPort editing).toNat = 1 ∧ (tgPort board).toNat = 0 := by decide
/-- 60_exceptions.md R216: a primitive that never answers. -/
theorem test_silent_read : faultOf (run { board with replies := [.silent] } 0x140000000000000000#72)
    = some .noAnswer := by decide

/-! ### A witness for every obligation with hypotheses: concrete values that meet them together -/

/-- A state with one command presented. -/
def presented (s : State) (w : BitVec 72) : State := { s with commands := [commandOfWord w] }

/-- An environment whose first primitive fails. -/
def failing : State := { board with replies := [bad, good] }

/-- A silent environment. -/
def silent : State := { board with replies := [.silent] }

/-- A request that both calculation steps pass. -/
def tone : ToneRequest := { freqHz := 440, durationMs := 100 }

/-- Both sides of 159, and a low nibble of 9 and of 10. -/
theorem witness_BcdRoundTripAndImage :
    (159 : Byte).toNat ≤ 159 ∧ 160 ≤ (160 : Byte).toNat ∧ (0xA9 : Byte).toNat % 16 ≤ 9 ∧
      ¬ (0x0A : Byte).toNat % 16 ≤ 9 ∧ (99 : Byte).toNat ≤ 99 ∧ bcdEncode 99 = bcdEncode 99 ∧
      (0x99 : Byte).toNat / 16 ≤ 9 := by decide

/-- The largest year that is not negative, and both sides of 2000. -/
theorem witness_DpackEncodesMasksAndFlagsTheCentury :
    (32767#32).toNat % 65536 < 32768 ∧ (1999#32).toNat % 65536 < 2000 ∧ ¬ (2000#32).toNat % 65536 < 2000 := by decide

theorem witness_DpackOfNegativeYearLeavesOneByteFree :
    (Date.mk 1 1 1 (-1)).year.toInt < 0 ∧ (Date.mk 1 1 1 0x8000).year.toInt < 0 := by decide

/-- Both clauses at the ends of their domains. -/
theorem witness_RoundTripsExactlyOnTheirDomain :
    timeUnpack (timePack { hours := 39, minutes := 79, seconds := 79 }) = { hours := 39, minutes := 79, seconds := 79 } ∧
      timeUnpack (timePack { hours := 40, minutes := 79, seconds := 79 })
        ≠ { hours := 40, minutes := 79, seconds := 79 } ∧
      dateUnpack (datePack { day := 39, month := 19, weekday := 9, year := 2099 } 0)
        = { day := 39, month := 19, weekday := 9, year := 2099 } ∧
      dateUnpack (datePack { day := 39, month := 19, weekday := 9, year := 1899 } 0)
        ≠ { day := 39, month := 19, weekday := 9, year := 1899 } := by decide

theorem witness_GettUnpacksWhatTheDeviceAnswers :
    board.answers 1 ∧ (board.drawAt 0).ok = true ∧ failing.answers 1 ∧ (failing.drawAt 0).ok = false := by decide

theorem witness_GetdUnpacksWhatTheDeviceAnswers :
    board.answers 1 ∧ (board.drawAt 0).ok = true ∧ failing.answers 1 ∧ (failing.drawAt 0).ok = false := by decide

/-- Success and failure, the last byte of the burst, and a register on each side of it. -/
theorem witness_SettWritesThreeRegisters :
    board.answers 1 ∧ (board.drawAt 0).ok = true ∧ failing.answers 1 ∧ (failing.drawAt 0).ok = false ∧
      2 < (timePack board.wt).bytes.length ∧ (0x01 < 0x02 ∧ 0x04 < 0x05) := by decide

/-- Success and failure, a year of each sign, the last byte of the burst, and a register on each side of it. -/
theorem witness_SetdWritesFourRegisters :
    board.answers 1 ∧ (board.drawAt 0).ok = true ∧ failing.answers 1 ∧ (failing.drawAt 0).ok = false ∧
      (Date.mk 1 1 1 (-1)).year.toInt < 0 ∧ ¬ board.wd.year.toInt < 0 ∧
      3 < (datePack board.wd 0).bytes.length ∧ (0x04 < 0x05 ∧ 0x08 < 0x09) := by decide

/-- A quiescent store, and the last Time of the domain. -/
theorem witness_GettReturnsWhatSettWrote :
    board.quiescent 2 ∧ (Time.mk 39 79 79).seconds.toNat ≤ 79 ∧ (Time.mk 39 79 79).minutes.toNat ≤ 79 ∧
      (Time.mk 39 79 79).hours.toNat ≤ 39 := by decide

/-- A quiescent store, and the first and the last year of the domain. -/
theorem witness_GetdReturnsWhatSetdWrote :
    board.quiescent 2 ∧ (Date.mk 39 19 9 2099).day.toNat ≤ 39 ∧ (Date.mk 39 19 9 2099).weekday.toNat ≤ 9 ∧
      (Date.mk 39 19 9 2099).month.toNat ≤ 19 ∧ 1900 ≤ (Date.mk 39 19 9 1900).year.toInt ∧
      (Date.mk 39 19 9 2099).year.toInt ≤ 2099 := by decide

theorem witness_PollReturnsTheMaskedCount :
    board.answers 1 ∧ (board.drawAt 0).ok = true ∧ failing.answers 1 ∧ (failing.drawAt 0).ok = false := by decide

/-- The two clauses meet between 3 and 4. -/
theorem witness_PointReadsItsBlockOrRejectsTheIndex :
    3 < (4 : Byte).toNat ∧ (3 : Byte).toNat ≤ 3 ∧ board.answers 1 ∧ failing.answers 1 := by decide

/-- Two states that differ in everything the operation must ignore, and both complete. -/
theorem witness_PointIgnoresEverythingButTheDevice :
    ∃ t1 t2 : State, board.cfg = editing.cfg ∧ board.tchRegs = editing.tchRegs ∧
      board.replies = editing.replies ∧ board.draws = editing.draws ∧ board ≠ editing ∧
      exec (.tchPoint 1) board = .next t1 ∧ exec (.tchPoint 1) editing = .next t2 :=
  ⟨_, _, rfl, rfl, rfl, rfl, by decide, rfl, rfl⟩

/-- A frequency above BASE_CLOCK, one equal to it, and one below it that are accepted. -/
theorem witness_PulseParametersFitTheirFields :
    toneCalc inputs { freqHz := 2000000, durationMs := 0 } = .params { high := 0, low := 0, repeatCount := 0 } ∧
      toneCalc inputs { freqHz := 1000000, durationMs := 0 } = .params { high := 0, low := 1, repeatCount := 0 } ∧
      toneCalc inputs tone = .params { high := 1136, low := 1136, repeatCount := 44 } := by decide

/-- The five clauses: each rejection at its boundary, an Idle channel, an Active one with each answer. -/
theorem witness_PlayFollowsTheTransitionTable :
    toneCalc board.cfg { freqHz := 15, durationMs := 100 } = .freqTooLow ∧
      toneCalc board.cfg { freqHz := 1000, durationMs := 1024 } = .durationTooLongForFreq ∧
      toneCalc board.cfg tone = .params { high := 1136, low := 1136, repeatCount := 44 } ∧
      board.tg = .idle ∧ board.answers 1 ∧
      editing.tg = .active ∧ editing.answers 2 ∧ (editing.drawAt 0).ok = true ∧
      { editing with replies := [bad] }.answers 1 ∧ ({ editing with replies := [bad] }.drawAt 0).ok = false := by decide

/-- A step that stops and starts the channel. -/
theorem witness_EveryStepKeepsOneOwnerOfTheChannel :
    ∃ t : State, editing.channelOwned ∧ step (presented editing 0x31000001B800000064#72) = .next t :=
  ⟨_, by decide, rfl⟩

theorem witness_ClicksFromRunCountModuloSix : board.mode = .run := by decide

/-- The three clauses at the ends of the range, and the smallest ceiling. -/
theorem witness_WrapSendsToTheOppositeEnd :
    (1 : Int) ≤ 24 ∧ (24 : Int) ≤ 23 + 1 ∧ (0 : Int) + (-1) < 0 ∧ ((0 : Int) ≤ 22 + 1 ∧ (22 : Int) + 1 < 24) ∧
      (1 : Int) ≤ 1 := by decide

/-- Every mode. -/
theorem witness_EditWrapsTheFieldOfItsMode :
    board.mode = .run ∧ editing.mode = .editHours ∧ { board with mode := .editMinutes }.mode = .editMinutes ∧
      { board with mode := .editDay }.mode = .editDay ∧ { board with mode := .editMonth }.mode = .editMonth ∧
      { board with mode := .editYear }.mode = .editYear := by decide

/-- Both clauses, and in `Run` a first half that fails. -/
theorem witness_TickPullsInRunAndPushesInEditModes :
    board.answers 2 ∧ board.mode = .run ∧ failing.answers 2 ∧ failing.mode = .run ∧
      editing.answers 2 ∧ editing.mode ≠ .run := by decide

/-- A quiescent store, and a working value inside the round-trip domain. -/
theorem witness_PushLeavesTheStoreEqualToTheWorkingValue :
    editing.mode ≠ .run ∧ editing.quiescent 2 ∧ editing.wt.seconds.toNat ≤ 79 ∧ editing.wt.minutes.toNat ≤ 79 ∧
      editing.wt.hours.toNat ≤ 39 ∧ editing.wd.day.toNat ≤ 39 ∧ editing.wd.weekday.toNat ≤ 9 ∧
      editing.wd.month.toNat ≤ 19 ∧ 1900 ≤ editing.wd.year.toInt ∧ editing.wd.year.toInt ≤ 2099 := by decide

/-- An edit of the year at 0. -/
theorem witness_EveryStepKeepsTheYearNonnegative :
    ∃ t : State, { board with mode := .editYear, wd := Date.mk 1 1 0 0 }.yearNonneg ∧
      step (presented { board with mode := .editYear, wd := Date.mk 1 1 0 0 } 0x41000000FF00000000#72) = .next t :=
  ⟨_, by decide, rfl⟩

/-- Two values next to legal ones. -/
theorem witness_IllegalOpChangesNothingElse :
    (presented board 0x000000000000000000#72).commands = [{ op := 0x00, a := 0, b := 0 }] ∧
      (0x00 : Byte) ∉ opcodes ∧ (0x43 : Byte) ∉ opcodes := by decide

/-- A state that has just reported an error. -/
def failed (e : ErrorCode) : State := { board with response := some (.error e) }

/-- Every clause: an operation that completes, a state after OK, and one after each of the seven errors. -/
theorem witness_EveryOperationEndsWithAnAllowedStatus :
    (∃ t : State, exec .rtcGett board = .next t) ∧
      { board with response := some (.ok 1 2) }.response = some (.ok 1 2) ∧
      (failed .busError).response = some (.error .busError) ∧
      (failed .badPointIndex).response = some (.error .badPointIndex) ∧
      (failed .freqTooLow).response = some (.error .freqTooLow) ∧
      (failed .durationTooLongForFreq).response = some (.error .durationTooLongForFreq) ∧
      (failed .stopError).response = some (.error .stopError) ∧
      (failed .txError).response = some (.error .txError) ∧
      (failed .illegalOp).response = some (.error .illegalOp) :=
  ⟨⟨_, rfl⟩, rfl, rfl, rfl, rfl, rfl, rfl, rfl, rfl⟩

/-- Every mode, and both states of the channel. -/
theorem witness_StatePortsShowTheRegisters :
    board.mode = .run ∧ editing.mode = .editHours ∧ { board with mode := .editMinutes }.mode = .editMinutes ∧
      { board with mode := .editDay }.mode = .editDay ∧ { board with mode := .editMonth }.mode = .editMonth ∧
      { board with mode := .editYear }.mode = .editYear ∧ board.tg = .idle ∧ editing.tg = .active := by decide

/-- Both halves: an environment that answers, and a silent one with an accepted request and an index of 3. -/
theorem witness_OperationsEndUnlessThePrimitivesStaySilent :
    board.answers 2 ∧ silent.replies = .silent :: [] ∧ (3 : Byte).toNat ≤ 3 ∧
      toneCalc silent.cfg tone = .params { high := 1136, low := 1136, repeatCount := 44 } := by decide

/-- Each of the four registers changed by an operation that may change it. -/
theorem witness_OnlyTheListedOperationsWriteState :
    (∃ t, exec .edClick board = .next t ∧ t.mode ≠ board.mode) ∧
      (∃ t, exec (.edEdit 1) editing = .next t ∧ t.wt ≠ editing.wt) ∧
      (∃ t, exec .edTick board = .next t ∧ t.wd ≠ board.wd) ∧
      (∃ t, exec (.tonePlay tone) board = .next t ∧ t.tg ≠ board.tg) :=
  ⟨⟨_, rfl, by decide⟩, ⟨_, rfl, by decide⟩, ⟨_, rfl, by decide⟩,
    ⟨{ board with
        tg := .active
        response := some (.ok 0 0)
        replies := [good]
        trace := [.ptStart { high := 1136, low := 1136, repeatCount := 44 } true] }, rfl, by decide⟩⟩

theorem witness_BusTrafficIsTheEightRows : ∃ t : State, exec (.tchPoint 3) board = .next t := ⟨_, rfl⟩

/-- Two different states with the same inputs, the two operations that read an input or need a year of a sign. -/
theorem witness_PureOperationsDependOnOperandsAndInputsOnly :
    ∃ t1 t2 t3 t4 : State, board ≠ editing ∧ board.cfg = editing.cfg ∧
      exec (.toneCalc tone) board = .next t1 ∧ exec (.toneCalc tone) editing = .next t2 ∧
      0 ≤ board.wd.year.toInt ∧
      exec (.rtcDpack board.wd) board = .next t3 ∧ exec (.rtcDpack board.wd) editing = .next t4 :=
  ⟨_, _, _, _, by decide, rfl, rfl, rfl, by decide, rfl, rfl⟩

theorem witness_EveryStepKeepsTheConfigurationInputs :
    ∃ t : State, step (presented board 0x420000000000000000#72) = .next t := ⟨_, rfl⟩

/-- A device that changes its register 3 before it answers. -/
def moving : State := { board with replies := [.answer { ok := true, changes := [(3, 0x07)], landed := 0 }] }

/-- The changed register, and another one of its space. -/
theorem witness_RegistersReadWhatWasLastStored :
    (moving.drawAt 0).changes = [(3, 0x07)] ∧ (3 : Byte).toNat ≠ 4 := by decide

/-- A write in an edit mode. -/
theorem witness_EveryStepKeepsTheRegisterListsCanonical :
    ∃ t : State, editing.regsCanonical ∧ step (presented editing 0x420000000000000000#72) = .next t :=
  ⟨_, by decide, rfl⟩

/-- A command with junk in the bits its format does not name. -/
theorem witness_DecodeAndEncodeAgree :
    decode (commandOfWord 0x22ABCDEF0112345678#72) = .ok (.tchPoint 1) := by rfl

/-- A command that decodes, with junk in `a` and `b`, one that does not, and one with each of the 18 values. -/
theorem witness_DecodingDependsOnTheOpcodeAlone :
    decode (commandOfWord 0x42FFFFFFFFFFFFFFFF#72) = .ok .edTick ∧
      (commandOfWord 0x43FFFFFFFFFFFFFFFF#72).op ∉ opcodes ∧
      (∀ op ∈ opcodes, (Command.mk op 0xFFFFFFFF 0xFFFFFFFF).op = op) ∧ opcodes.length = 18 :=
  ⟨rfl, by decide, by decide, by decide⟩

theorem witness_StepRunsTheDecodedOperation :
    (presented board 0x400000000000000000#72).commands = [{ op := 0x40, a := 0, b := 0 }] ∧
      decode { op := 0x40, a := 0, b := 0 } = .ok .edClick := ⟨by decide, rfl⟩

theorem witness_NoCommandNoChange : board.commands = [] := by decide

theorem witness_StepTakesOneCommandAndExtendsTheTrace :
    ∃ t : State, step (presented editing 0x420000000000000000#72) = .next t := ⟨_, rfl⟩

end Sys2Proof.Tests
end

section
/-! PROOFS. The state ports, 10_state.md R36: which code MODE and TG show, and where each field of the working
time and date lies on its port. -/

namespace Sys2Proof.Machine

/-! ### The codes of MODE and TG -/

theorem modePort_of_mode {s : State} {m : Mode} (h : s.mode = m) : modePort s = modeCode m := by
  rw [modePort, h]

theorem tgPort_of_tg {s : State} {g : ToneState} (h : s.tg = g) : tgPort s = toneCode g := by
  rw [tgPort, h]

/-! ### The fields of WT and WD

A port is its fields one above the other. A field is reached by dropping the fields below it one at a time; it is
then the low end of what is left, or all of it. -/

/-- The bits above the lowest field are bits of the fields above it. -/
theorem extractLsb'_append_above {m n : Nat} (x : BitVec m) (y : BitVec n) (i k : Nat) :
    (x ++ y).extractLsb' (n + i) k = x.extractLsb' i k := by
  rw [BitVec.extractLsb'_append_eq_of_le (Nat.le_add_right n i), Nat.add_sub_cancel_left]

theorem wtPort_seconds (s : State) : (wtPort s).extractLsb' 0 8 = s.wt.seconds :=
  BitVec.extractLsb'_append_eq_right

theorem wtPort_minutes (s : State) : (wtPort s).extractLsb' 8 8 = s.wt.minutes :=
  calc (wtPort s).extractLsb' (8 + 0) 8
    _ = (s.wt.hours ++ s.wt.minutes).extractLsb' 0 8 := extractLsb'_append_above _ s.wt.seconds 0 8
    _ = s.wt.minutes := BitVec.extractLsb'_append_eq_right

theorem wtPort_hours (s : State) : (wtPort s).extractLsb' 16 8 = s.wt.hours :=
  calc (wtPort s).extractLsb' (8 + 8) 8
    _ = (s.wt.hours ++ s.wt.minutes).extractLsb' 8 8 := extractLsb'_append_above _ s.wt.seconds 8 8
    _ = s.wt.hours := BitVec.extractLsb'_append_eq_left

theorem wdPort_day (s : State) : (wdPort s).extractLsb' 0 8 = s.wd.day :=
  BitVec.extractLsb'_append_eq_right

theorem wdPort_weekday (s : State) : (wdPort s).extractLsb' 8 8 = s.wd.weekday :=
  calc (wdPort s).extractLsb' (8 + 0) 8
    _ = (s.wd.year ++ s.wd.month ++ s.wd.weekday).extractLsb' 0 8 := extractLsb'_append_above _ s.wd.day 0 8
    _ = s.wd.weekday := BitVec.extractLsb'_append_eq_right

/-- What lies above the day and the weekday. -/
theorem wdPort_above_weekday (s : State) (i k : Nat) :
    (wdPort s).extractLsb' (8 + (8 + i)) k = (s.wd.year ++ s.wd.month).extractLsb' i k :=
  calc (wdPort s).extractLsb' (8 + (8 + i)) k
    _ = (s.wd.year ++ s.wd.month ++ s.wd.weekday).extractLsb' (8 + i) k :=
      extractLsb'_append_above _ s.wd.day (8 + i) k
    _ = (s.wd.year ++ s.wd.month).extractLsb' i k := extractLsb'_append_above _ s.wd.weekday i k

theorem wdPort_month (s : State) : (wdPort s).extractLsb' 16 8 = s.wd.month :=
  (wdPort_above_weekday s 0 8).trans BitVec.extractLsb'_append_eq_right

theorem wdPort_year (s : State) : (wdPort s).extractLsb' 24 16 = s.wd.year :=
  (wdPort_above_weekday s 8 16).trans BitVec.extractLsb'_append_eq_left

end Sys2Proof.Machine

namespace Sys2Proof.Proofs

open Sys2Proof.Machine

/-- Settles O40: one fact per code and per field. -/
theorem statePortsShowTheRegisters : Obligations.StatePortsShowTheRegisters := by
  intro s
  exact ⟨modePort_of_mode, modePort_of_mode, modePort_of_mode, modePort_of_mode, modePort_of_mode, modePort_of_mode,
    tgPort_of_tg, tgPort_of_tg, modePort_of_mode rfl, tgPort_of_tg rfl,
    wtPort_seconds s, wtPort_minutes s, wtPort_hours s,
    wdPort_day s, wdPort_weekday s, wdPort_month s, wdPort_year s⟩

end Sys2Proof.Proofs
end

section
/-! PROOFS. The illegal opcodes, 30_encoding.md R83: the decoder answers an operation only for that operation's own
opcode, so any other command is rejected, and a rejected command changes the response alone. -/

namespace Sys2Proof

/-- What decodes carries the opcode of the operation it decodes to. -/
theorem op_of_decode_ok {c : Command} {i : Instr} (h : decode c = .ok i) : c.op = opcode i := by
  unfold decode at h
  split at h
  case h_19 => cases h
  all_goals
    rename_i hop
    cases h
    exact BitVec.eq_of_toNat_eq hop

end Sys2Proof

namespace Sys2Proof.Machine

theorem opcode_mem_opcodes (i : Instr) : opcode i ∈ opcodes := by
  cases i <;> simp [opcode, opcodes]

theorem decode_eq_error_of_not_mem {c : Command} (hop : c.op ∉ opcodes) : ∃ r, decode c = .error r := by
  cases h : decode c with
  | ok i => exact absurd (op_of_decode_ok h ▸ opcode_mem_opcodes i) hop
  | error r => exact ⟨r, rfl⟩

theorem fetchCommand_cons {c : Command} {rest : List Command} {s : State} (hc : s.commands = c :: rest) :
    fetchCommand s = some (c, { s with commands := rest }) := by
  simp [fetchCommand, hc]

theorem step_of_decode_error {c : Command} {rest : List Command} {s : State} {r : Reject}
    (hc : s.commands = c :: rest) (hr : decode c = .error r) :
    step s = .next (State.raise .illegalOp { s with commands := rest }) := by
  simp only [step, fetchCommand_cons hc, hr, rejectCommand_eq]

end Sys2Proof.Machine

namespace Sys2Proof.Proofs

open Sys2Proof.Machine

/-- Settles O33: no operation has such an opcode, so the decoder rejects the command. -/
theorem illegalOpChangesNothingElse : Obligations.IllegalOpChangesNothingElse := by
  intro c rest s hc hop
  obtain ⟨r, hr⟩ := decode_eq_error_of_not_mem hop
  exact step_of_decode_error hc hr

end Sys2Proof.Proofs
end

section
/-! PROOFS. The BCD codec, 40_bcd_codec.md R100 and R101: each operation completes with its closed form of the
operand byte, and the operand byte is the lowest byte of port `a`, whatever the other bits of the ports hold. -/

namespace Sys2Proof.Machine

/-- A byte on a result port is the number it holds, the bits above it clear. -/
theorem packByte_eq_ofNat (v : Byte) : packByte v = BitVec.ofNat 32 v.toNat :=
  (BitVec.ofNat_toNat 32 v).symm

theorem exec_bcdDec (v : Byte) (s : State) :
    exec (.bcdDec v) s = .next (s.complete (BitVec.ofNat 32 (bcdValue v.toNat)) 0) :=
  calc exec (.bcdDec v) s
    _ = .next (s.complete (packByte (bcdDecode v)) 0) := rfl
    _ = .next (s.complete (BitVec.ofNat 32 (bcdValue v.toNat)) 0) := by rw [packByte_eq_ofNat, bcdDecode_toNat]

theorem exec_bcdEnc (v : Byte) (s : State) :
    exec (.bcdEnc v) s = .next (s.complete (BitVec.ofNat 32 (bcdDigits v.toNat)) 0) :=
  calc exec (.bcdEnc v) s
    _ = .next (s.complete (packByte (bcdEncode v)) 0) := rfl
    _ = .next (s.complete (BitVec.ofNat 32 (bcdDigits v.toNat)) 0) := by rw [packByte_eq_ofNat, bcdEncode_toNat]

theorem decode_bcdDec (a b : Word32) : decode { op := 0x01, a := a, b := b } = .ok (.bcdDec (portByte 0 a)) := rfl

theorem decode_bcdEnc (a b : Word32) : decode { op := 0x02, a := a, b := b } = .ok (.bcdEnc (portByte 0 a)) := rfl

end Sys2Proof.Machine

namespace Sys2Proof.Proofs

open Sys2Proof.Machine

/-- Settles O2: the subtraction loop's closed form (`bcdEncode_toNat`), at the lowest byte of port `a`. -/
theorem bcdEncPacksEveryByte : Obligations.BcdEncPacksEveryByte := by
  intro a b s
  refine ⟨decode_bcdEnc a b, ?_⟩
  rw [← portByte_toNat]
  exact exec_bcdEnc (portByte 0 a) s

/-- Settles O1: the two nibbles' value (`bcdDecode_toNat`), at the lowest byte of port `a`. -/
theorem bcdDecUnpacksEveryByte : Obligations.BcdDecUnpacksEveryByte := by
  intro a b s
  refine ⟨decode_bcdDec a b, ?_⟩
  rw [← portByte_toNat]
  exact exec_bcdDec (portByte 0 a) s

end Sys2Proof.Proofs
end

section
/-! PROOFS. The RTC register decoder, 41_rtc_decoder.md R110 to R126. The pure operations: what a mask, the century
flag and the year do to a number, then each packed result as numbers. The bus operations: the one state that a read
and the one that a write ends in, and what every register reads in it. -/

namespace Sys2Proof

@[simp] theorem Buf3.length_bytes (buf : Buf3) : buf.bytes.length = 3 := rfl

@[simp] theorem Buf4.length_bytes (buf : Buf4) : buf.bytes.length = 4 := rfl

end Sys2Proof

namespace Sys2Proof.Machine

/-! ### Masks and the century flag as numbers (R111, R114, R117) -/

/-- A mask of the `k` lowest bits keeps the number below `2 ^ k`. -/
theorem and_lowMask_toNat (v : Byte) (k : Nat) (hk : k ≤ 8) :
    (v &&& BitVec.ofNat 8 (2 ^ k - 1)).toNat = v.toNat % 2 ^ k := by
  have hlt : 2 ^ k - 1 < 2 ^ 8 := by
    have := Nat.pow_le_pow_right (n := 2) (by decide) hk
    omega
  rw [BitVec.toNat_and, BitVec.toNat_ofNat, Nat.mod_eq_of_lt hlt, Nat.and_two_pow_sub_one_eq_mod]

theorem and_0x7F_toNat (v : Byte) : (v &&& 0x7F).toNat = v.toNat % 128 := and_lowMask_toNat v 7 (by decide)

theorem and_0x3F_toNat (v : Byte) : (v &&& 0x3F).toNat = v.toNat % 64 := and_lowMask_toNat v 6 (by decide)

theorem and_0x1F_toNat (v : Byte) : (v &&& 0x1F).toNat = v.toNat % 32 := and_lowMask_toNat v 5 (by decide)

theorem and_0x0F_toNat (v : Byte) : (v &&& 0x0F).toNat = v.toNat % 16 := and_lowMask_toNat v 4 (by decide)

/-- Flag bit 7 on top of a byte that leaves it free adds 128. -/
theorem or_flag_toNat {v : Byte} (hv : v.toNat < 128) (p : Prop) [Decidable p] :
    (v ||| (if p then 0x80 else 0x00)).toNat = v.toNat + if p then 128 else 0 := by
  split
  · rw [BitVec.toNat_or, Nat.or_comm]
    exact (Nat.two_pow_add_eq_or_of_lt (i := 7) hv 1).symm.trans (Nat.add_comm _ _)
  · simp

/-- Flag bit 7 is the top bit of its byte. -/
theorem century_eq (months : Byte) : century months = if 128 ≤ months.toNat then 1900 else 2000 := by
  have htop : ∀ v : Byte, v &&& 0x80 ≠ 0 ↔ 128 ≤ v.toNat := by decide
  simp only [century, htop]

/-! ### Years (R25, R117, R118) -/

/-- A year below 32768 is not negative: read as two's complement it is its own number. -/
theorem toInt_eq_toNat_of_lt {y : Word16} (hy : y.toNat < 32768) : y.toInt = y.toNat :=
  BitVec.toInt_eq_toNat_of_lt (by omega)

theorem yearByte_toNat_of_lt {y : Word16} (hy : y.toNat < 32768) (free : Byte) :
    (yearByte y free).toNat = bcdDigits (y.toNat % 100) := by
  have hnonneg : ¬ y.toInt < 0 := by rw [toInt_eq_toNat_of_lt hy]; omega
  rw [yearByte, if_neg hnonneg, bcdEncode_toNat, BitVec.toNat_ofNat, toInt_eq_toNat_of_lt hy, Int.toNat_natCast,
    Nat.mod_eq_of_lt (by omega)]

/-- Only the packing of a negative year takes a free byte. -/
theorem packedYear_of_lt {d : Date} (hy : d.year.toNat < 32768) (s : State) : s.packedYear d = s := by
  have hnonneg : ¬ d.year.toInt < 0 := by rw [toInt_eq_toNat_of_lt hy]; omega
  rw [State.packedYear, if_neg hnonneg]

theorem layoutD_year_toNat (a b : Word32) : (layoutD a b).year.toNat = b.toNat % 65536 := by
  simp [layoutD, BitVec.extractLsb'_toNat]

/-! ### The packed results as numbers -/

theorem packTime_timeUnpack (buf : Buf3) :
    packTime (timeUnpack buf) = portOf (bcdValue (buf.b0.toNat % 128)) (bcdValue (buf.b1.toNat % 128))
      (bcdValue (buf.b2.toNat % 64)) 0 := by
  simp only [packTime, portBytes_eq, timeUnpack, bcdDecode_toNat, and_0x7F_toNat, and_0x3F_toNat]
  rfl

theorem packR3_timePack (t : Time) :
    packR3 (timePack t) = portOf (bcdDigits t.seconds.toNat) (bcdDigits t.minutes.toNat)
      (bcdDigits t.hours.toNat) 0 := by
  simp only [packR3, portBytes_eq, timePack, bcdEncode_toNat]
  rfl

theorem packDate_dateUnpack (buf : Buf4) :
    packDate (dateUnpack buf) = portOf (bcdValue (buf.b0.toNat % 64)) (bcdValue (buf.b1.toNat % 16))
      (bcdValue (buf.b2.toNat % 32)) 0 := by
  simp only [packDate, portBytes_eq, dateUnpack, bcdDecode_toNat, and_0x3F_toNat, and_0x0F_toNat, and_0x1F_toNat]
  rfl

/-- The year fits its 16 bits. -/
theorem packYear_dateUnpack (buf : Buf4) :
    packYear (dateUnpack buf)
      = BitVec.ofNat 32 ((if 128 ≤ buf.b2.toNat then 1900 else 2000) + bcdValue buf.b3.toNat) := by
  have hfits : century buf.b2 + bcdValue buf.b3.toNat < 2 ^ 16 := by
    have := buf.b3.isLt
    rw [century_eq, bcdValue]
    split <;> omega
  rw [← century_eq, packYear, dateUnpack, bcdDecode_toNat, BitVec.setWidth_ofNat_of_le_of_lt (by decide) hfits]

theorem packR4_datePack (d : Date) (free : Byte) :
    packR4 (datePack d free) = portOf (bcdDigits d.day.toNat % 64) (bcdDigits d.weekday.toNat % 16)
      (bcdDigits d.month.toNat % 32 + if d.year.toInt < 2000 then 128 else 0) (yearByte d.year free).toNat := by
  have hmonth : (bcdEncode d.month &&& 0x1F).toNat < 128 := by rw [and_0x1F_toNat]; omega
  simp only [packR4, portBytes_eq, datePack, or_flag_toNat hmonth, and_0x3F_toNat, and_0x0F_toNat, and_0x1F_toNat,
    bcdEncode_toNat]

/-! ### The pure operations -/

theorem exec_rtcTunpk (buf : Buf3) (s : State) :
    exec (.rtcTunpk buf) s = .next (s.complete (packTime (timeUnpack buf)) 0) := rfl

theorem exec_rtcTpack (t : Time) (s : State) :
    exec (.rtcTpack t) s = .next (s.complete (packR3 (timePack t)) 0) := rfl

theorem exec_rtcDunpk (buf : Buf4) (s : State) :
    exec (.rtcDunpk buf) s = .next (s.complete (packDate (dateUnpack buf)) (packYear (dateUnpack buf))) := rfl

theorem exec_rtcDpack (d : Date) (s : State) :
    exec (.rtcDpack d) s = .next ((s.packedYear d).complete (packR4 (datePack d (freeYearByte s))) 0) := rfl

theorem exec_rtcDpack_of_lt {d : Date} (hy : d.year.toNat < 32768) (s : State) :
    exec (.rtcDpack d) s = .next (s.complete
      (portOf (bcdDigits d.day.toNat % 64) (bcdDigits d.weekday.toNat % 16)
        (bcdDigits d.month.toNat % 32 + if d.year.toNat < 2000 then 128 else 0)
        (bcdDigits (d.year.toNat % 100))) 0) := by
  have hcentury : d.year.toInt < 2000 ↔ d.year.toNat < 2000 := by rw [toInt_eq_toNat_of_lt hy]; omega
  simp only [exec_rtcDpack, packedYear_of_lt hy, packR4_datePack, yearByte_toNat_of_lt hy, hcentury]

/-! ### The bus operations: the state after one access (20_memory.md R52, R53) -/

/-- The state in which an operation of one read ends: the device has made its own changes, the read is recorded, and
the response is `r` if the read succeeded. -/
def State.afterRead (addr n : Nat) (r : Response) (s : State) : State :=
  { (s.atAccess .rtc 0).drawn 1 with
    response := if (s.drawAt 0).ok then some r else some (.error .busError)
    trace := s.trace ++ [.memRead .rtc addr n (if (s.drawAt 0).ok then
      some ((List.range n).map fun i => (s.atAccess .rtc 0).deviceByte .rtc (addr + i)) else none)] }

/-- The state in which an operation of one write ends: the device has made its own changes, the bytes that landed are
stored, and the write is recorded. -/
def State.afterWrite (addr : Nat) (data : List Byte) (s : State) : State :=
  { (s.atAccess .rtc 0).drawn 1 with
    rtcRegs := Memory.store (fun i => (s.drawAt 0).ok || (s.drawAt 0).landed.getLsbD i) data 0 addr
      (s.atAccess .rtc 0).rtcRegs
    response := if (s.drawAt 0).ok then some (.ok 0 0) else some (.error .busError)
    trace := s.trace ++ [.memWrite .rtc addr data (s.drawAt 0).ok] }

theorem exec_rtcGett {s : State} (h : s.answers 1) :
    exec .rtcGett s = .next
      (s.afterRead 0x02 3 (.ok (packTime (timeUnpack (s.atAccess .rtc 0).timeRegs)) 0)) := by
  simp only [exec, execRtcGett, readTime, memRead_eq .rtc rtcSecReg 3 h, State.afterRead]
  cases (s.drawAt 0).ok <;> rfl

theorem exec_rtcGetd {s : State} (h : s.answers 1) :
    exec .rtcGetd s = .next
      (s.afterRead 0x05 4 (.ok (packDate (dateUnpack (s.atAccess .rtc 0).dateRegs))
        (packYear (dateUnpack (s.atAccess .rtc 0).dateRegs)))) := by
  simp only [exec, execRtcGetd, readDate, memRead_eq .rtc rtcDayReg 4 h, State.afterRead]
  cases (s.drawAt 0).ok <;> rfl

theorem exec_rtcSett (t : Time) {s : State} (h : s.answers 1) :
    exec (.rtcSett t) s = .next (s.afterWrite 0x02 (timePack t).bytes) := by
  simp only [exec, execRtcSett, writeTime, memWrite_eq rtcSecReg (timePack t).bytes h]
  rfl

theorem exec_rtcSetd (d : Date) {s : State} (h : s.answers 1) :
    exec (.rtcSetd d) s
      = .next ((s.packedYear d).afterWrite 0x05 (datePack d (freeYearByte s)).bytes) := by
  have h' : (s.packedYear d).answers 1 := h
  simp only [exec, execRtcSetd, writeDate, memWrite_eq rtcDayReg (datePack d (freeYearByte s)).bytes h']
  rfl

/-! ### What the registers read after a write (R53) -/

section AfterWrite

variable (addr : Nat) (data : List Byte) (s : State)

theorem deviceByte_afterWrite_inside (i : Nat) (hi : i < data.length) :
    (s.afterWrite addr data).deviceByte .rtc (addr + i)
      = if (s.drawAt 0).ok || (s.drawAt 0).landed.getLsbD i then data[i]
        else (s.atAccess .rtc 0).deviceByte .rtc (addr + i) := by
  simp only [State.deviceByte, State.regs_rtc, State.afterWrite, Memory.get_store_inside _ _ _ _ _ i hi, Nat.zero_add]
  split <;> rfl

theorem deviceByte_afterWrite_outside (x : Nat) (hx : x < addr ∨ addr + data.length ≤ x) :
    (s.afterWrite addr data).deviceByte .rtc x = (s.atAccess .rtc 0).deviceByte .rtc x := by
  simp only [State.deviceByte, State.regs_rtc, State.afterWrite, Memory.get_store_outside _ _ _ _ _ x hx]

theorem deviceByte_afterWrite_new_or_old (i : Nat) (hi : i < data.length) :
    (s.afterWrite addr data).deviceByte .rtc (addr + i) = data[i] ∨
      (s.afterWrite addr data).deviceByte .rtc (addr + i) = (s.atAccess .rtc 0).deviceByte .rtc (addr + i) := by
  rw [deviceByte_afterWrite_inside addr data s i hi]
  exact ite_eq_or_eq _ _ _

theorem deviceByte_afterWrite_of_ok (hok : (s.drawAt 0).ok = true) (i : Nat) (hi : i < data.length) :
    (s.afterWrite addr data).deviceByte .rtc (addr + i) = data[i] := by
  rw [deviceByte_afterWrite_inside addr data s i hi, hok, Bool.true_or, if_pos rfl]

end AfterWrite

theorem timeRegs_afterWrite_of_ok (buf : Buf3) {s : State} (hok : (s.drawAt 0).ok = true) :
    (s.afterWrite 0x02 buf.bytes).timeRegs = buf := by
  have hbyte := deviceByte_afterWrite_of_ok 0x02 buf.bytes s hok
  exact (Buf3.mk.injEq ..).mpr ⟨hbyte 0 (by simp), hbyte 1 (by simp), hbyte 2 (by simp)⟩

theorem dateRegs_afterWrite_of_ok (buf : Buf4) {s : State} (hok : (s.drawAt 0).ok = true) :
    (s.afterWrite 0x05 buf.bytes).dateRegs = buf := by
  have hbyte := deviceByte_afterWrite_of_ok 0x05 buf.bytes s hok
  exact (Buf4.mk.injEq ..).mpr
    ⟨hbyte 0 (by simp), hbyte 1 (by simp), hbyte 2 (by simp), hbyte 3 (by simp)⟩

end Sys2Proof.Machine

namespace Sys2Proof.Proofs

open Sys2Proof.Machine

/-- Settles O4: each register byte masked, then decoded (`packTime_timeUnpack`). -/
theorem tunpkMasksAndDecodes : Obligations.TunpkMasksAndDecodes := by
  intro a b s
  refine ⟨rfl, ?_⟩
  rw [exec_rtcTunpk, packTime_timeUnpack]
  simp only [layoutR3, portByte_toNat]
  rfl

/-- Settles O5: each field encoded, no mask between (`packR3_timePack`). -/
theorem tpackEncodesUnmasked : Obligations.TpackEncodesUnmasked := by
  intro a b s
  refine ⟨rfl, ?_⟩
  rw [exec_rtcTpack, packR3_timePack]
  simp only [layoutT, portByte_toNat]
  rfl

/-- Settles O6: the masked fields and the year on their two ports (`packDate_dateUnpack`, `packYear_dateUnpack`). -/
theorem dunpkMasksDecodesAndDatesTheCentury : Obligations.DunpkMasksDecodesAndDatesTheCentury := by
  intro a b s
  refine ⟨rfl, ?_⟩
  rw [exec_rtcDunpk, packDate_dateUnpack, packYear_dateUnpack]
  simp only [layoutR4, portByte_toNat]
  rfl

/-- Settles O7: the upper half of port `b` is no part of the year, and a year below 32768 is its own number
(`exec_rtcDpack_of_lt`). -/
theorem dpackEncodesMasksAndFlagsTheCentury : Obligations.DpackEncodesMasksAndFlagsTheCentury := by
  intro a b s
  refine ⟨rfl, fun hy => ?_⟩
  rw [← layoutD_year_toNat a b] at hy ⊢
  rw [exec_rtcDpack_of_lt hy]
  simp only [layoutD, portByte_toNat]
  rfl

/-- Settles O13: the operation ends in `State.afterWrite`, whose registers the lemmas above read. -/
theorem settWritesThreeRegisters : Obligations.SettWritesThreeRegisters := by
  intro tm s h
  exact ⟨s.afterWrite 0x02 (timePack tm).bytes, exec_rtcSett tm h, rfl,
    timeRegs_afterWrite_of_ok (timePack tm),
    deviceByte_afterWrite_new_or_old 0x02 (timePack tm).bytes s,
    deviceByte_afterWrite_outside 0x02 (timePack tm).bytes s⟩

/-- Settles O14: as O13, from the state in which the packing has taken its free byte. -/
theorem setdWritesFourRegisters : Obligations.SetdWritesFourRegisters := by
  intro d s h
  exact ⟨(s.packedYear d).afterWrite 0x05 (datePack d (freeYearByte s)).bytes, freeYearByte s,
    exec_rtcSetd d h, rfl,
    dateRegs_afterWrite_of_ok (datePack d (freeYearByte s)),
    deviceByte_afterWrite_new_or_old 0x05 (datePack d (freeYearByte s)).bytes (s.packedYear d),
    deviceByte_afterWrite_outside 0x05 (datePack d (freeYearByte s)).bytes (s.packedYear d)⟩

/-- Settles O11: the burst that `State.afterRead` records is the three registers of the time. -/
theorem gettUnpacksWhatTheDeviceAnswers : Obligations.GettUnpacksWhatTheDeviceAnswers := by
  intro s h
  exact exec_rtcGett h

/-- Settles O12: the burst that `State.afterRead` records is the four registers of the date. -/
theorem getdUnpacksWhatTheDeviceAnswers : Obligations.GetdUnpacksWhatTheDeviceAnswers := by
  intro s h
  exact exec_rtcGetd h

end Sys2Proof.Proofs
end

section
/-! PROOFS. The touch normalizer, 42_touch_normalizer.md R140 to R149. The pure operation: a coordinate and a pair of
coordinates as numbers, and the swap in each rotation. The bus operations: the one state that a read of the touch
controller ends in, and the index that is rejected before it. -/

namespace Sys2Proof.Machine

/-! ### Coordinates as numbers (R141, R142) -/

/-- The low nibble lies above the low byte, so the two never overlap. -/
theorem coordinate_toNat (hi lo : Byte) : (coordinate hi lo).toNat = hi.toNat % 16 * 256 + lo.toNat := by
  have hlo := lo.isLt
  have hnibble : hi.toNat % 16 * 2 ^ 8 < 2 ^ 16 := by omega
  rw [coordinate, BitVec.toNat_or, BitVec.toNat_shiftLeft, BitVec.toNat_setWidth_of_le (by decide),
    BitVec.toNat_setWidth_of_le (by decide), and_0x0F_toNat, Nat.shiftLeft_eq, Nat.mod_eq_of_lt hnibble,
    ← Nat.shiftLeft_eq, ← Nat.shiftLeft_add_eq_or_of_lt hlo, Nat.shiftLeft_eq]

theorem packHalves_eq (lo hi : Word16) : packHalves lo hi = BitVec.ofNat 32 (lo.toNat + hi.toNat * 65536) := by
  apply BitVec.eq_of_toNat_eq
  have := lo.isLt; have := hi.isLt
  rw [packHalves, append_toNat, BitVec.toNat_ofNat, Nat.mod_eq_of_lt (by omega)]
  omega

theorem packHalves_coordinate (hi₀ lo₀ hi₁ lo₁ : Byte) :
    packHalves (coordinate hi₀ lo₀) (coordinate hi₁ lo₁) = BitVec.ofNat 32
      ((hi₀.toNat % 16 * 256 + lo₀.toNat) + (hi₁.toNat % 16 * 256 + lo₁.toNat) * 65536) := by
  rw [packHalves_eq, coordinate_toNat, coordinate_toNat]

theorem touchNorm_of_eq_zero {rotation : BitVec 1} (h : rotation = 0) (buf : Buf4) :
    touchNorm rotation buf = touchRaw buf := by
  rw [touchNorm, if_neg (not_not_intro h)]

theorem touchNorm_of_ne_zero {rotation : BitVec 1} (h : rotation ≠ 0) (buf : Buf4) :
    touchNorm rotation buf = (touchRaw buf).swap := by
  rw [touchNorm, if_pos h, Prod.swap]

/-- The count on its port is the register's low nibble. -/
theorem packByte_touchCount (v : Byte) : packByte (touchCount v) = BitVec.ofNat 32 (v.toNat % 16) := by
  rw [packByte_eq_ofNat, touchCount, and_0x0F_toNat]

/-! ### The pure operation (R144) -/

theorem exec_tchNorm_of_eq_zero {s : State} (h : s.cfg.rotation = 0) (buf : Buf4) :
    exec (.tchNorm buf) s = .next (s.complete (packHalves (touchRaw buf).1 (touchRaw buf).2) 0) := by
  simp only [exec, execTchNorm, touchNorm_of_eq_zero h]

theorem exec_tchNorm_of_ne_zero {s : State} (h : s.cfg.rotation ≠ 0) (buf : Buf4) :
    exec (.tchNorm buf) s = .next (s.complete (packHalves (touchRaw buf).2 (touchRaw buf).1) 0) := by
  simp only [exec, execTchNorm, touchNorm_of_ne_zero h, Prod.fst_swap, Prod.snd_swap]

/-! ### The bus operations: the state after one read of the touch controller (R146, R148) -/

/-- The state in which an operation of one read of the touch controller ends: the device has made its own changes, the
read is recorded, and the response is `r` if the read succeeded. -/
def State.afterTouchRead (addr n : Nat) (r : Response) (s : State) : State :=
  { (s.atAccess .tch 0).drawn 1 with
    response := if (s.drawAt 0).ok then some r else some (.error .busError)
    trace := s.trace ++ [.memRead .tch addr n (if (s.drawAt 0).ok then
      some ((List.range n).map fun i => (s.atAccess .tch 0).deviceByte .tch (addr + i)) else none)] }

theorem exec_tchPoll {s : State} (h : s.answers 1) :
    exec .tchPoll s = .next (s.afterTouchRead s.cfg.touchCountReg.toNat 1
      (.ok (packByte (touchCount ((s.atAccess .tch 0).deviceByte .tch s.cfg.touchCountReg.toNat))) 0)) := by
  simp only [exec, execTchPoll, readTouchCount, memRead_eq .tch s.cfg.touchCountReg.toNat 1 h, State.afterTouchRead]
  cases (s.drawAt 0).ok <;> rfl

/-- No primitive takes part, so nothing is asked of the environment. -/
theorem exec_tchPoint_of_gt {n : Byte} (hn : 3 < n.toNat) (s : State) :
    exec (.tchPoint n) s = .next (s.raise .badPointIndex) := by
  simp only [exec, execTchPoint, if_pos hn]

theorem exec_tchPoint_of_le {n : Byte} (hn : n.toNat ≤ 3) {s : State} (h : s.answers 1) :
    exec (.tchPoint n) s = .next (s.afterTouchRead (touchBlock s.cfg n) 4
      (.ok (packHalves (touchNorm s.cfg.rotation ((s.atAccess .tch 0).touchRegs n.toNat)).1
          (touchNorm s.cfg.rotation ((s.atAccess .tch 0).touchRegs n.toNat)).2) (packByte n))) := by
  simp only [exec, execTchPoint, if_neg (Nat.not_lt.mpr hn), readTouchBlock,
    memRead_eq .tch (touchBlock s.cfg n) 4 h, State.afterTouchRead]
  cases (s.drawAt 0).ok <;> rfl

end Sys2Proof.Machine

namespace Sys2Proof.Proofs

open Sys2Proof.Machine

/-- Settles O17: two coordinates packed as one number (`packHalves_coordinate`), in each rotation. -/
theorem normAssemblesAndSwaps : Obligations.NormAssemblesAndSwaps := by
  intro a b s
  refine ⟨rfl, ?_⟩
  simp only [← portByte_toNat]
  by_cases hrot : s.cfg.rotation = 0
  · rw [if_neg (not_not_intro hrot), ← packHalves_coordinate]
    exact exec_tchNorm_of_eq_zero hrot (layoutR4 a)
  · rw [if_pos hrot, ← packHalves_coordinate]
    exact exec_tchNorm_of_ne_zero hrot (layoutR4 a)

/-- Settles O20: an index above 3 is found before the read, and the burst that `State.afterTouchRead` records is the
block of the index. -/
theorem pointReadsItsBlockOrRejectsTheIndex : Obligations.PointReadsItsBlockOrRejectsTheIndex := by
  intro n s
  exact ⟨fun hn => exec_tchPoint_of_gt hn s, fun hn h => exec_tchPoint_of_le hn h⟩

/-- Settles O18: both coordinates of the example are 12-bit values, kept or exchanged by the rotation. -/
theorem normOfTheWorkedExample : Obligations.NormOfTheWorkedExample := by
  intro s
  by_cases hrot : s.cfg.rotation = 0
  · rw [if_pos hrot, exec_tchNorm_of_eq_zero hrot]
    rfl
  · rw [if_neg hrot, exec_tchNorm_of_ne_zero hrot]
    rfl

/-- Settles O19: the register read is the one `State.afterTouchRead` records, and its low nibble is the count. -/
theorem pollReturnsTheMaskedCount : Obligations.PollReturnsTheMaskedCount := by
  intro s h
  rw [exec_tchPoll h, packByte_touchCount]
  rfl

end Sys2Proof.Proofs
end

section
/-! PROOFS. The tone generator, 43_tone_generator.md R155 to R166. TONE.CALC: the outcome of `tone_calc` in each of its
three cases, and the pulse widths as numbers. TONE.PLAY: the state after the stop and the one after the start of a
transmission, in which every row of the transition table ends. -/

namespace Sys2Proof.Machine

/-! ### The outcome of `tone_calc` (R157, R158, R159, R163) -/

section Outcome

variable {cfg : ConfigInputs} {q : ToneRequest}

theorem toneCalc_of_le_freqFloor (hlow : q.freqHz.toNat ≤ freqFloor cfg) : toneCalc cfg q = .freqTooLow := by
  rw [toneCalc, if_pos hlow]

theorem toneCalc_of_maxLoopCount_lt (hlow : ¬ q.freqHz.toNat ≤ freqFloor cfg)
    (hlong : cfg.maxLoopCount.toNat < repeatCount q) : toneCalc cfg q = .durationTooLongForFreq := by
  rw [toneCalc, if_neg hlow, if_pos hlong]

theorem toneCalc_of_accepted (hlow : ¬ q.freqHz.toNat ≤ freqFloor cfg)
    (hlong : ¬ cfg.maxLoopCount.toNat < repeatCount q) : toneCalc cfg q = .params (pulseParams cfg q) := by
  rw [toneCalc, if_neg hlow, if_neg hlong]

/-! ### The pulse widths as numbers (R158, R160) -/

/-- Step 1 is what keeps the wavelength in 16 bits (R160). -/
theorem wavelength_lt_of_freqFloor_lt (hlow : ¬ q.freqHz.toNat ≤ freqFloor cfg) : wavelength cfg q < 65536 := by
  have hbase : cfg.baseClock.toNat < q.freqHz.toNat * 65536 :=
    (Nat.div_lt_iff_lt_mul (by decide)).mp (Nat.not_le.mp hlow)
  exact Nat.div_lt_of_lt_mul hbase

theorem pulseParams_high_toNat (hw : wavelength cfg q < 65536) :
    (pulseParams cfg q).high.toNat = wavelength cfg q / 2 :=
  (BitVec.toNat_ofNat _ 16).trans (Nat.mod_eq_of_lt (by omega))

theorem pulseParams_low_toNat (hw : wavelength cfg q < 65536) :
    (pulseParams cfg q).low.toNat = wavelength cfg q - wavelength cfg q / 2 :=
  (BitVec.toNat_ofNat _ 16).trans (Nat.mod_eq_of_lt (by omega))

theorem packHalves_pulseParams (hw : wavelength cfg q < 65536) :
    packHalves (pulseParams cfg q).high (pulseParams cfg q).low = BitVec.ofNat 32
      (wavelength cfg q / 2 + (wavelength cfg q - wavelength cfg q / 2) * 65536) := by
  rw [packHalves_eq, pulseParams_high_toNat hw, pulseParams_low_toNat hw]

end Outcome

/-! ### TONE.CALC by that outcome (R164) -/

section Exec

variable {q : ToneRequest} {p : PulseParams} {s : State}

theorem exec_toneCalc_of_freqTooLow (hc : toneCalc s.cfg q = .freqTooLow) :
    exec (.toneCalc q) s = .next (s.raise .freqTooLow) := by
  simp only [exec, execToneCalc, hc]

theorem exec_toneCalc_of_durationTooLongForFreq (hc : toneCalc s.cfg q = .durationTooLongForFreq) :
    exec (.toneCalc q) s = .next (s.raise .durationTooLongForFreq) := by
  simp only [exec, execToneCalc, hc]

theorem exec_toneCalc_of_params (hc : toneCalc s.cfg q = .params p) :
    exec (.toneCalc q) s = .next (s.complete (packHalves p.high p.low) p.repeatCount) := by
  simp only [exec, execToneCalc, hc]

/-- The three steps in their order; past step 1 both pulse widths fit their halves of the port. -/
theorem exec_toneCalc (q : ToneRequest) (s : State) :
    exec (.toneCalc q) s = .next { s with
      response := if q.freqHz.toNat ≤ freqFloor s.cfg then some (.error .freqTooLow)
      else if s.cfg.maxLoopCount.toNat < repeatCount q then some (.error .durationTooLongForFreq)
      else some (.ok
        (BitVec.ofNat 32 (wavelength s.cfg q / 2 + (wavelength s.cfg q - wavelength s.cfg q / 2) * 65536))
        (BitVec.ofNat 32 (repeatCount q))) } := by
  by_cases hlow : q.freqHz.toNat ≤ freqFloor s.cfg
  · rw [if_pos hlow]
    exact exec_toneCalc_of_freqTooLow (toneCalc_of_le_freqFloor hlow)
  rw [if_neg hlow]
  by_cases hlong : s.cfg.maxLoopCount.toNat < repeatCount q
  · rw [if_pos hlong]
    exact exec_toneCalc_of_durationTooLongForFreq (toneCalc_of_maxLoopCount_lt hlow hlong)
  · rw [if_neg hlong, exec_toneCalc_of_params (toneCalc_of_accepted hlow hlong),
      packHalves_pulseParams (wavelength_lt_of_freqFloor_lt hlow)]
    rfl

/-! ### The primitives of TONE.PLAY, answered (R60, R161, R162) -/

/-- The state after a stop that the environment has answered: the channel is given up, whatever the answer. -/
def State.afterStop (s : State) : State :=
  { s.drawn 1 with
    tg := .idle
    trace := s.trace ++ [.ptStop (s.drawAt 0).ok] }

/-- The state in which a transmission ends that the environment has answered: the channel is owned if it started. -/
def State.afterStart (p : PulseParams) (s : State) : State :=
  { s.drawn 1 with
    tg := if (s.drawAt 0).ok then .active else .idle
    response := if (s.drawAt 0).ok then some (.ok 0 0) else some (.error .txError)
    trace := s.trace ++ [.ptStart p (s.drawAt 0).ok] }

theorem ptStop_eq (h : s.answers 1) :
    ptStop s = some
      { ok := (s.drawAt 0).ok
        after := (s.drawn 1).record (.ptStop (s.drawAt 0).ok) } := by
  simp only [ptStop, takeReply_eq h]

theorem transmit_eq (h : s.answers 1) : transmit p s = .next (s.afterStart p) := by
  obtain ⟨w, hw⟩ := ptStart_of_answers p h
  obtain ⟨t, ht⟩ : ∃ t, transmit p s = .next t := ⟨_, by simp only [transmit, hw]; rfl⟩
  rw [ht, (transmit_next ht).2]
  rfl

theorem afterStop_answers (h : s.answers 2) : s.afterStop.answers 1 :=
  State.answers_drawn (k := 1) h

theorem afterStop_drawAt_zero (s : State) : s.afterStop.drawAt 0 = s.drawAt 1 :=
  State.drawn_drawAt 0 1 s

/-- A stop and a start together take two draws. -/
theorem afterStart_afterStop (p : PulseParams) (s : State) :
    s.afterStop.afterStart p = { s.drawn 2 with
      tg := if (s.drawAt 1).ok then .active else .idle
      response := if (s.drawAt 1).ok then some (.ok 0 0) else some (.error .txError)
      trace := s.trace ++ [.ptStop (s.drawAt 0).ok, .ptStart p (s.drawAt 1).ok] } := by
  have hdrawn : (s.drawn 1).drawn 1 = s.drawn 2 := State.drawn_drawn 1 1 s
  rw [← hdrawn, State.afterStart, afterStop_drawAt_zero, State.afterStop, List.append_assoc]
  rfl

/-! ### Reclaiming the channel (R161, R162) -/

theorem reclaimAndTransmit_of_idle (hg : s.tg = .idle) : reclaimAndTransmit p s = transmit p s := by
  simp only [reclaimAndTransmit, hg]

theorem reclaimAndTransmit_of_stop_failed (hg : s.tg = .active) (h : s.answers 1) (hok : (s.drawAt 0).ok = false) :
    reclaimAndTransmit p s = .next (s.afterStop.raise .stopError) := by
  simp only [reclaimAndTransmit, hg, ptStop_eq h, hok, State.afterStop]
  rfl

theorem reclaimAndTransmit_of_stopped (hg : s.tg = .active) (h : s.answers 1) (hok : (s.drawAt 0).ok = true) :
    reclaimAndTransmit p s = transmit p s.afterStop := by
  simp only [reclaimAndTransmit, hg, ptStop_eq h, hok, State.afterStop]
  rfl

/-! ### TONE.PLAY by the outcome of `tone_calc` (R165, R166) -/

theorem exec_tonePlay_of_freqTooLow (hc : toneCalc s.cfg q = .freqTooLow) :
    exec (.tonePlay q) s = .next (s.raise .freqTooLow) := by
  simp only [exec, execTonePlay, hc]

theorem exec_tonePlay_of_durationTooLongForFreq (hc : toneCalc s.cfg q = .durationTooLongForFreq) :
    exec (.tonePlay q) s = .next (s.raise .durationTooLongForFreq) := by
  simp only [exec, execTonePlay, hc]

theorem exec_tonePlay_of_params (hc : toneCalc s.cfg q = .params p) :
    exec (.tonePlay q) s = reclaimAndTransmit p s := by
  simp only [exec, execTonePlay, hc]

theorem exec_tonePlay_of_idle (hc : toneCalc s.cfg q = .params p) (hg : s.tg = .idle) (h : s.answers 1) :
    exec (.tonePlay q) s = .next (s.afterStart p) := by
  rw [exec_tonePlay_of_params hc, reclaimAndTransmit_of_idle hg, transmit_eq h]

theorem exec_tonePlay_of_stop_failed (hc : toneCalc s.cfg q = .params p) (hg : s.tg = .active) (h : s.answers 1)
    (hok : (s.drawAt 0).ok = false) : exec (.tonePlay q) s = .next (s.afterStop.raise .stopError) := by
  rw [exec_tonePlay_of_params hc, reclaimAndTransmit_of_stop_failed hg h hok]

theorem exec_tonePlay_of_stopped (hc : toneCalc s.cfg q = .params p) (hg : s.tg = .active) (h : s.answers 2)
    (hok : (s.drawAt 0).ok = true) : exec (.tonePlay q) s = .next (s.afterStop.afterStart p) := by
  have hstop : s.answers 1 := State.answers_mono h (by decide)
  rw [exec_tonePlay_of_params hc, reclaimAndTransmit_of_stopped hg hstop hok, transmit_eq (afterStop_answers h)]

end Exec

end Sys2Proof.Machine

namespace Sys2Proof.Proofs

open Sys2Proof.Machine

/-- Settles O22: the three steps in the model's names for their quantities (`exec_toneCalc`). -/
theorem calcFollowsTheThreeSteps : Obligations.CalcFollowsTheThreeSteps := by
  intro q s
  exact exec_toneCalc q s

/-- Settles O24: a rejected request, the Idle channel, and the Active one with each answer to the stop; the successful
stop and the start after it are one state of two draws (`afterStart_afterStop`). -/
theorem playFollowsTheTransitionTable : Obligations.PlayFollowsTheTransitionTable := by
  intro q s
  refine ⟨exec_tonePlay_of_freqTooLow, exec_tonePlay_of_durationTooLongForFreq,
    fun p hc hg h => exec_tonePlay_of_idle hc hg h, ?stopFailed, ?stopped⟩
  case stopFailed =>
    intro p hc hg h hok
    rw [exec_tonePlay_of_stop_failed hc hg h hok, State.afterStop, hok]
    rfl
  case stopped =>
    intro p hc hg h hok
    rw [exec_tonePlay_of_stopped hc hg h hok, afterStart_afterStop, hok]

end Sys2Proof.Proofs
end

section
/-! PROOFS. The editable clock, 44_editable_clock.md R180 to R191. The wrap and the two fields it is stored in; the
cycle of ED.CLICK, in one step and along a list of clicks; ED.EDIT mode by mode; ED.TICK as the two bus operations it
consists of, and what the registers read after it on a quiescent store. -/

namespace Sys2Proof.Machine

/-! ### The wrap (R181, R182) -/

section Wrap

variable {current delta ceiling : Int}

theorem wrap_of_ceiling_le (h : ceiling ≤ current + delta) : wrap current delta ceiling = 0 := by
  rw [wrap, if_pos h]

theorem wrap_of_neg (hc : 1 ≤ ceiling) (h : current + delta < 0) : wrap current delta ceiling = ceiling - 1 := by
  rw [wrap, if_neg (by omega), if_pos h]

theorem wrap_of_inside (h0 : 0 ≤ current + delta) (h : current + delta < ceiling) :
    wrap current delta ceiling = current + delta := by
  rw [wrap, if_neg (by omega), if_neg (by omega)]

theorem wrap_range (current delta : Int) (hc : 1 ≤ ceiling) :
    0 ≤ wrap current delta ceiling ∧ wrap current delta ceiling < ceiling := by
  by_cases htop : ceiling ≤ current + delta
  · rw [wrap_of_ceiling_le htop]; omega
  by_cases hbot : current + delta < 0
  · rw [wrap_of_neg hc hbot]; omega
  · rw [wrap_of_inside (by omega) (by omega)]; omega

/-- An 8-bit field keeps every bit of a wrap whose ceiling it can hold. -/
theorem wrapByte_toNat (field : Byte) (delta : Int) (hc : 1 ≤ ceiling) (hfits : ceiling ≤ 256) :
    ((wrapByte field delta ceiling).toNat : Int) = wrap field.toNat delta ceiling := by
  obtain ⟨hnonneg, hlt⟩ := wrap_range field.toNat delta hc
  rw [wrapByte, BitVec.toNat_ofInt, Int.toNat_of_nonneg (Int.emod_nonneg _ (by decide))]
  exact Int.emod_eq_of_lt hnonneg (by omega)

theorem wrapByte_lt (field : Byte) (delta : Int) {bound : Nat} (hc : 1 ≤ bound) (hfits : bound ≤ 256) :
    (wrapByte field delta bound).toNat < bound := by
  have hval := wrapByte_toNat (ceiling := bound) field delta (by omega) (by omega)
  have hlt := (wrap_range (ceiling := bound) field.toNat delta (by omega)).2
  omega

/-- The signed 16-bit year keeps every bit of a wrap whose ceiling leaves the sign bit free. -/
theorem wrapYear_toInt (field : Word16) (delta : Int) (hc : 1 ≤ ceiling) (hfits : ceiling ≤ 32768) :
    (wrapYear field delta ceiling).toInt = wrap field.toInt delta ceiling := by
  obtain ⟨hnonneg, hlt⟩ := wrap_range field.toInt delta hc
  exact BitVec.toInt_ofInt_eq_self (by decide) (by omega) (by omega)

end Wrap

/-! ### ED.CLICK (R184, R185) -/

theorem modeCode_nextMode (m : Mode) : (modeCode (nextMode m)).toNat = ((modeCode m).toNat + 1) % 6 := by
  cases m <;> rfl

theorem modeCode_iterate_nextMode_run (k : Nat) : (modeCode (nextMode^[k] .run)).toNat = k % 6 := by
  induction k with
  | zero => rfl
  | succ k ih => rw [Function.iterate_succ_apply', modeCode_nextMode, ih, Nat.mod_add_mod]

theorem exec_edClick (s : State) :
    exec .edClick s = .next { s with mode := nextMode s.mode, response := some (.ok 0 0) } := rfl

theorem step_of_decode_ok {c : Command} {rest : List Command} {s : State} {i : Instr}
    (hc : s.commands = c :: rest) (hi : decode c = .ok i) : step s = exec i { s with commands := rest } := by
  simp only [step, fetchCommand_cons hc, hi]

theorem decode_edClick (a b : Word32) : decode { op := 0x40, a := a, b := b } = .ok .edClick := rfl

/-- A list of clicks moves the mode along its cycle; beside the mode only the response and the list change. -/
theorem steps_edClick (a b : Word32) (k : Nat) (s : State) :
    ∃ r, steps k { s with commands := List.replicate k { op := 0x40, a := a, b := b } }
      = .next { s with mode := nextMode^[k] s.mode, response := r, commands := [] } := by
  induction k generalizing s with
  | zero => exact ⟨s.response, rfl⟩
  | succ k ih =>
    obtain ⟨r, hr⟩ := ih { s with mode := nextMode s.mode, response := some (.ok 0 0) }
    refine ⟨r, ?_⟩
    rw [steps, step_of_decode_ok List.replicate_succ (decode_edClick a b), exec_edClick]
    exact hr

/-! ### ED.EDIT (R186) -/

theorem exec_edEdit (delta : Byte) (s : State) :
    exec (.edEdit delta) s = .next { s with
      wt := editTime s.mode delta.toInt s.wt
      wd := editDate s.mode delta.toInt s.wd
      response := some (.ok 0 0) } := rfl

/-! ### ED.TICK (R189, R190): the halves of a tick as the bus operations they are -/

@[simp] theorem afterWrite_mode (addr : Nat) (data : List Byte) (s : State) :
    (s.afterWrite addr data).mode = s.mode := rfl
@[simp] theorem afterWrite_wt (addr : Nat) (data : List Byte) (s : State) :
    (s.afterWrite addr data).wt = s.wt := rfl
@[simp] theorem afterWrite_wd (addr : Nat) (data : List Byte) (s : State) :
    (s.afterWrite addr data).wd = s.wd := rfl

/-- The state in which RTC.GETT ends. -/
def State.afterGett (s : State) : State :=
  s.afterRead 0x02 3 (.ok (packTime (timeUnpack (s.atAccess .rtc 0).timeRegs)) 0)

/-- The state in which RTC.GETD ends. -/
def State.afterGetd (s : State) : State :=
  s.afterRead 0x05 4 (.ok (packDate (dateUnpack (s.atAccess .rtc 0).dateRegs))
    (packYear (dateUnpack (s.atAccess .rtc 0).dateRegs)))

/-- The state in which RTC.SETT of the working time ends. -/
def State.afterSett (s : State) : State := s.afterWrite 0x02 (timePack s.wt).bytes

/-- The state in which RTC.SETD of the working date ends. -/
def State.afterSetd (s : State) : State :=
  (s.packedYear s.wd).afterWrite 0x05 (datePack s.wd (freeYearByte s)).bytes

section Tick

variable {s : State}

theorem afterGett_answers (h : s.answers 2) : s.afterGett.answers 1 := State.answers_drawn (k := 1) h

theorem afterGett_drawAt_zero (s : State) : s.afterGett.drawAt 0 = s.drawAt 1 := State.drawn_drawAt 0 1 s

theorem afterSett_answers (h : s.answers 2) : s.afterSett.answers 1 := State.answers_drawn (k := 1) h

theorem afterSett_drawAt_zero (s : State) : s.afterSett.drawAt 0 = s.drawAt 1 := State.drawn_drawAt 0 1 s

/-- What the pull uses of RTC.GETT's read: beside the response it leaves the state that RTC.GETT leaves. -/
theorem readTime_eq (h : s.answers 1) :
    ∃ r, readTime s = some r ∧ r.ok = (s.drawAt 0).ok ∧ r.time = timeUnpack (s.atAccess .rtc 0).timeRegs ∧
      r.after = { s.afterGett with response := s.response } :=
  ⟨_, memRead_eq .rtc rtcSecReg 3 h, rfl, rfl, rfl⟩

/-- What the pull uses of RTC.GETD's read: beside the response it leaves the state that RTC.GETD leaves. -/
theorem readDate_eq (h : s.answers 1) :
    ∃ r, readDate s = some r ∧ r.ok = (s.drawAt 0).ok ∧ r.date = dateUnpack (s.atAccess .rtc 0).dateRegs ∧
      r.after = { s.afterGetd with response := s.response } :=
  ⟨_, memRead_eq .rtc rtcDayReg 4 h, rfl, rfl, rfl⟩

/-- An answered write leaves the state that an operation of one write ends in, but for the response. -/
theorem memWrite_eq_afterWrite (addr : Nat) (data : List Byte) (h : s.answers 1) :
    ∃ w, memWrite addr data s = some w ∧ w.ok = (s.drawAt 0).ok ∧
      w.after = { s.afterWrite addr data with response := s.response } :=
  ⟨_, memWrite_eq addr data h, rfl, rfl⟩

theorem writeTime_eq (h : s.answers 1) :
    ∃ w, writeTime s.wt s = some w ∧ w.ok = (s.drawAt 0).ok ∧
      w.after = { s.afterSett with response := s.response } :=
  memWrite_eq_afterWrite rtcSecReg (timePack s.wt).bytes h

theorem writeDate_eq (h : s.answers 1) :
    ∃ w, writeDate s.wd s = some w ∧ w.ok = (s.drawAt 0).ok ∧
      w.after = { s.afterSetd with response := s.response } :=
  memWrite_eq_afterWrite (s := s.packedYear s.wd) rtcDayReg (datePack s.wd (freeYearByte s)).bytes h

/-- The date half starts from RTC.GETT's end but for the working time and the response, which no read looks at. -/
theorem pull_eq (h : s.answers 2) :
    pull s = .next { s.afterGett.afterGetd with
      wt := if (s.drawAt 0).ok then timeUnpack (s.atAccess .rtc 0).timeRegs else s.wt
      wd := if (s.drawAt 1).ok then dateUnpack (s.afterGett.atAccess .rtc 0).dateRegs else s.wd
      response := if (s.drawAt 0).ok && (s.drawAt 1).ok then some (.ok 0 0) else some (.error .busError) } := by
  obtain ⟨r, hr, hok, htime, hafter⟩ := readTime_eq (State.answers_mono h (by decide))
  have hanswers : ({ r.after with wt := if r.ok then r.time else r.after.wt } : State).answers 1 := by
    rw [hafter]
    exact afterGett_answers h
  obtain ⟨r', hr', hok', hdate', hafter'⟩ := readDate_eq hanswers
  simp only [pull, hr, hr']
  rw [hok', hdate', hafter', hok, htime, hafter, ← afterGett_drawAt_zero]
  rfl

/-- The date half starts from RTC.SETT's end but for the response, which no write looks at. -/
theorem push_eq (h : s.answers 2) :
    push s = .next { s.afterSett.afterSetd with
      response := if (s.drawAt 0).ok && (s.drawAt 1).ok then some (.ok 0 0) else some (.error .busError) } := by
  obtain ⟨w, hw, hok, hafter⟩ := writeTime_eq (State.answers_mono h (by decide))
  have hanswers : w.after.answers 1 := by
    rw [hafter]
    exact afterSett_answers h
  obtain ⟨w', hw', hok', hafter'⟩ := writeDate_eq hanswers
  simp only [push, hw, hw']
  rw [hok', hafter', hok, hafter, ← afterSett_drawAt_zero]
  rfl

theorem exec_edTick_of_run (hm : s.mode = .run) : exec .edTick s = pull s := by
  simp only [exec, execEdTick, hm]

theorem exec_edTick_of_ne_run (hm : s.mode ≠ .run) : exec .edTick s = push s := by
  simp only [exec, execEdTick]
  cases h : s.mode with
  | run => exact absurd h hm
  | editHours | editMinutes | editDay | editMonth | editYear => rfl

end Tick

/-! ### The state after a push (R191) -/

theorem push_keeps_mode (s : State) : s.afterSett.afterSetd.mode = s.mode := by
  simp only [State.afterSetd, State.afterSett, afterWrite_mode, State.packedYear_mode]

theorem push_keeps_wt (s : State) : s.afterSett.afterSetd.wt = s.wt := by
  simp only [State.afterSetd, State.afterSett, afterWrite_wt, State.packedYear_wt]

theorem push_keeps_wd (s : State) : s.afterSett.afterSetd.wd = s.wd := by
  simp only [State.afterSetd, State.afterSett, afterWrite_wd, State.packedYear_wd]

theorem push_response_of_ok {s : State} (hok' : (s.drawAt 1).ok = true) :
    s.afterSett.afterSetd.response = some (.ok 0 0) := by
  rw [← afterSett_drawAt_zero] at hok'
  exact if_pos hok'

/-- A push whose halves both succeed ends as its RTC.SETD does. -/
theorem push_of_ok {s : State} (h : s.answers 2) (hok : (s.drawAt 0).ok = true) (hok' : (s.drawAt 1).ok = true) :
    push s = .next s.afterSett.afterSetd := by
  rw [push_eq h, hok, hok', Bool.and_self, if_pos rfl, ← push_response_of_ok hok']

/-- A device that makes no change of its own is accessed as it stands. -/
theorem atAccess_of_changes_eq_nil {sp : Space} {k : Nat} {s : State} (h : (s.drawAt k).changes = []) :
    s.atAccess sp k = s := by
  rw [State.atAccess, h]
  cases sp <;> rfl

/-- The date registers lie above the time registers. -/
theorem timeRegs_afterWrite_date (data : List Byte) {s : State} (hquiet : (s.drawAt 0).changes = []) :
    (s.afterWrite 0x05 data).timeRegs = s.timeRegs := by
  have hbyte (x : Nat) (hx : x < 0x05) : (s.afterWrite 0x05 data).deviceByte .rtc x = s.deviceByte .rtc x := by
    rw [deviceByte_afterWrite_outside 0x05 data s x (.inl hx), atAccess_of_changes_eq_nil hquiet]
  simp only [State.timeRegs, hbyte 0x02 (by decide), hbyte 0x03 (by decide), hbyte 0x04 (by decide)]

theorem timeRegs_afterSett_afterSetd {s : State} (hok : (s.drawAt 0).ok = true) (hquiet : (s.drawAt 1).changes = []) :
    s.afterSett.afterSetd.timeRegs = timePack s.wt := by
  rw [← afterSett_drawAt_zero] at hquiet
  calc s.afterSett.afterSetd.timeRegs
    _ = s.afterSett.timeRegs := timeRegs_afterWrite_date _ (s := s.afterSett.packedYear s.wd) hquiet
    _ = timePack s.wt := timeRegs_afterWrite_of_ok (timePack s.wt) hok

theorem dateRegs_afterSett_afterSetd {s : State} (hok : (s.drawAt 1).ok = true) :
    s.afterSett.afterSetd.dateRegs = datePack s.wd (freeYearByte s.afterSett) := by
  rw [← afterSett_drawAt_zero] at hok
  exact dateRegs_afterWrite_of_ok _ (s := s.afterSett.packedYear s.wd) hok

/-! ### The round trips of a time and a date (R119) -/

/-- A mask that leaves the digits of a number whole leaves the number whole. -/
theorem bcdValue_bcdDigits_mod {v m : Nat} (hm : m ≤ 256) (hv : v / 10 * 16 + v % 10 < m) :
    bcdValue (bcdDigits v % m) = v := by
  rw [bcdDigits, Nat.mod_eq_of_lt (a := v / 10 * 16 + v % 10) (by omega), Nat.mod_eq_of_lt hv, bcdValue]
  omega

/-- A number whose digits fit under a mask comes back through its encoding, the mask and the decoding. -/
theorem bcdDecode_bcdEncode_and {v mask : Byte} {m : Nat} (hmask : ∀ x : Byte, (x &&& mask).toNat = x.toNat % m)
    (hm : m ≤ 256) (hv : v.toNat / 10 * 16 + v.toNat % 10 < m) : bcdDecode (bcdEncode v &&& mask) = v := by
  apply BitVec.eq_of_toNat_eq
  rw [bcdDecode_toNat, hmask, bcdEncode_toNat, bcdValue_bcdDigits_mod hm hv]

theorem timeUnpack_timePack {t : Time} (hs : t.seconds.toNat ≤ 79) (hmin : t.minutes.toNat ≤ 79)
    (hh : t.hours.toNat ≤ 39) : timeUnpack (timePack t) = t :=
  (Time.mk.injEq ..).mpr
    ⟨bcdDecode_bcdEncode_and and_0x3F_toNat (by decide) (by omega),
      bcdDecode_bcdEncode_and and_0x7F_toNat (by decide) (by omega),
      bcdDecode_bcdEncode_and and_0x7F_toNat (by decide) (by omega)⟩

/-- The century flag lies above the bits of the month. -/
theorem datePack_b2_toNat (d : Date) (free : Byte) :
    (datePack d free).b2.toNat = bcdDigits d.month.toNat % 32 + if d.year.toInt < 2000 then 128 else 0 := by
  have hmonth : (bcdEncode d.month &&& 0x1F).toNat < 128 := by rw [and_0x1F_toNat]; omega
  rw [datePack, or_flag_toNat hmonth, and_0x1F_toNat, bcdEncode_toNat]

theorem datePack_b2_and_0x1F (d : Date) (free : Byte) :
    (datePack d free).b2 &&& 0x1F = bcdEncode d.month &&& 0x1F := by
  apply BitVec.eq_of_toNat_eq
  rw [and_0x1F_toNat, and_0x1F_toNat, datePack_b2_toNat, bcdEncode_toNat]
  split <;> omega

theorem century_datePack (d : Date) (free : Byte) :
    century (datePack d free).b2 = if d.year.toInt < 2000 then 1900 else 2000 := by
  rw [century_eq, datePack_b2_toNat]
  split <;> split <;> omega

theorem bcdDecode_yearByte_toNat {y : Word16} (hy : y.toNat < 32768) (free : Byte) :
    (bcdDecode (yearByte y free)).toNat = y.toNat % 100 := by
  have hdigits : bcdDigits (y.toNat % 100) % 256 = bcdDigits (y.toNat % 100) := Nat.mod_mod ..
  rw [bcdDecode_toNat, yearByte_toNat_of_lt hy, ← hdigits, bcdValue_bcdDigits_mod (by decide) (by omega)]

/-- The flag and the two digits name every year of the two centuries. -/
theorem year_of_datePack {d : Date} (free : Byte) (h1900 : 1900 ≤ d.year.toInt) (h2099 : d.year.toInt ≤ 2099) :
    BitVec.ofNat 16 (century (datePack d free).b2 + (bcdDecode (datePack d free).b3).toNat) = d.year := by
  have hy : d.year.toNat < 32768 := by have := BitVec.toInt_eq_toNat_cond d.year; have := d.year.isLt; omega
  have hval := toInt_eq_toNat_of_lt hy
  have hsum : century (datePack d free).b2 + d.year.toNat % 100 = d.year.toNat := by
    rw [century_datePack]
    split <;> omega
  have hdigits : (bcdDecode (datePack d free).b3).toNat = d.year.toNat % 100 := bcdDecode_yearByte_toNat hy free
  rw [hdigits, hsum, BitVec.ofNat_toNat, BitVec.setWidth_eq]

theorem dateUnpack_datePack {d : Date} (free : Byte) (hday : d.day.toNat ≤ 39) (hweekday : d.weekday.toNat ≤ 9)
    (hmonth : d.month.toNat ≤ 19) (h1900 : 1900 ≤ d.year.toInt) (h2099 : d.year.toInt ≤ 2099) :
    dateUnpack (datePack d free) = d := by
  refine (Date.mk.injEq ..).mpr ⟨?day, ?month, ?weekday, year_of_datePack free h1900 h2099⟩
  case day =>
    rw [datePack, BitVec.and_assoc, BitVec.and_self]
    exact bcdDecode_bcdEncode_and and_0x3F_toNat (by decide) (by omega)
  case month =>
    rw [datePack_b2_and_0x1F]
    exact bcdDecode_bcdEncode_and and_0x1F_toNat (by decide) (by omega)
  case weekday =>
    rw [datePack, BitVec.and_assoc, BitVec.and_self]
    exact bcdDecode_bcdEncode_and and_0x0F_toNat (by decide) (by omega)

end Sys2Proof.Machine

namespace Sys2Proof.Proofs

open Sys2Proof.Machine

/-- Settles O27: the mode after a list of clicks is an iterate of the cycle (`steps_edClick`), whose code is counted
modulo 6 (`modeCode_iterate_nextMode_run`). -/
theorem clicksFromRunCountModuloSix : Obligations.ClicksFromRunCountModuloSix := by
  intro k s hm
  obtain ⟨r, hr⟩ := steps_edClick 0 0 k s
  refine ⟨_, hr, ?_, rfl, rfl, rfl, rfl⟩
  rw [hm]
  exact modeCode_iterate_nextMode_run k

/-- Settles O29: in each edit mode the one field of the mode is a wrap its word can hold (`wrapByte_toNat`,
`wrapYear_toInt`) and that stays in range. -/
theorem editWrapsTheFieldOfItsMode : Obligations.EditWrapsTheFieldOfItsMode := by
  intro delta s
  refine ⟨_, exec_edEdit delta s, rfl, ?run, ?hours, ?minutes, ?day, ?month, ?year⟩ <;> intro hm <;> simp only [hm]
  case run => exact ⟨rfl, rfl⟩
  case hours | minutes | day | month =>
    exact ⟨rfl, rfl, wrapByte_toNat _ _ (by decide) (by decide), wrapByte_lt _ _ (by decide) (by decide)⟩
  case year =>
    have hyear : (editDate .editYear delta.toInt s.wd).year.toInt = wrap s.wd.year.toInt delta.toInt 3000 :=
      wrapYear_toInt _ _ (by decide) (by decide)
    refine ⟨rfl, rfl, hyear, ?_⟩
    rw [hyear]
    exact wrap_range _ _ (by decide)

/-- Settles O30: the halves of a tick are the bus operations themselves, one after the other (`pull_eq`, `push_eq`). -/
theorem tickPullsInRunAndPushesInEditModes : Obligations.TickPullsInRunAndPushesInEditModes := by
  intro s h
  have hfirst : s.answers 1 := State.answers_mono h (by decide)
  constructor
  · intro hm
    rw [exec_edTick_of_run hm]
    exact ⟨s.afterGett, s.afterGett.afterGetd, exec_rtcGett hfirst, exec_rtcGetd (afterGett_answers h), pull_eq h⟩
  · intro hm
    rw [exec_edTick_of_ne_run hm]
    exact ⟨s.afterSett, s.afterSett.afterSetd, exec_rtcSett s.wt hfirst,
      exec_rtcSetd s.wd (afterSett_answers h), push_eq h⟩

/-- Settles O31: on a quiescent store the second burst leaves the registers of the first as they are, so both read as
they were written. -/
theorem pushLeavesTheStoreEqualToTheWorkingValue : Obligations.PushLeavesTheStoreEqualToTheWorkingValue := by
  intro s hm hq
  obtain ⟨h, hquiet⟩ := hq
  obtain ⟨hok, -⟩ := hquiet 0 (by decide)
  obtain ⟨hok', hchanges'⟩ := hquiet 1 (by decide)
  have htick : exec .edTick s = .next s.afterSett.afterSetd :=
    (exec_edTick_of_ne_run hm).trans (push_of_ok h hok hok')
  have htime : s.afterSett.afterSetd.timeRegs = timePack s.wt := timeRegs_afterSett_afterSetd hok hchanges'
  have hdate : s.afterSett.afterSetd.dateRegs = datePack s.wd (freeYearByte s.afterSett) :=
    dateRegs_afterSett_afterSetd hok'
  refine ⟨s.afterSett.afterSetd, freeYearByte s.afterSett, htick, push_response_of_ok hok', push_keeps_wt s,
    push_keeps_wd s, push_keeps_mode s, htime, hdate, ?_, ?_⟩
  · rw [htime]
    exact timeUnpack_timePack
  · rw [hdate]
    exact dateUnpack_datePack _

/-- Settles O26: one turn of the cycle, in codes (`modeCode_nextMode`). -/
theorem clickAdvancesTheModeCycle : Obligations.ClickAdvancesTheModeCycle := by
  intro s
  exact ⟨nextMode s.mode, exec_edClick s, modeCode_nextMode s.mode⟩

/-- Settles O28: the three cases of the wrap, and the range they leave. -/
theorem wrapSendsToTheOppositeEnd : Obligations.WrapSendsToTheOppositeEnd := by
  intro current delta ceiling hc
  exact ⟨wrap_of_ceiling_le, wrap_of_neg hc, wrap_of_inside, wrap_range current delta hc⟩

end Sys2Proof.Proofs
end

section
/-! PROOFS. What an operation does when the environment stays silent, and from it the one list of the states in which
an operation can end (`Ends`, `ends_of_exec`). Every statement about all operations and every invariant of a step is
read off that list. -/

namespace Sys2Proof.Machine

/-! ### Silence (20_memory.md R64, 60_exceptions.md R216) -/

theorem answers_one_or_silent (s : State) : s.answers 1 ∨ ∃ rest, s.replies = .silent :: rest := by
  cases hr : s.replies with
  | nil => exact .inl (by simp [State.answers, hr])
  | cons r rest =>
    cases r with
    | answer d => exact .inl (by simp [State.answers, hr])
    | silent => exact .inr ⟨rest, rfl⟩

theorem answers_two_of_one {s : State} (h : s.answers 1) (h' : (s.drawn 1).answers 1) : s.answers 2 := by
  intro r hr
  rw [show 2 = 1 + 1 from rfl, List.take_add] at hr
  rcases List.mem_append.mp hr with hr | hr
  · exact h r hr
  · exact h' r hr

section Silent

variable {s : State} {rest : List Reply} (hs : s.replies = .silent :: rest)
include hs

theorem exec_rtcGett_silent : exec .rtcGett s = .fault .noAnswer := by
  simp only [exec, execRtcGett, readTime, memRead_silent _ _ _ hs]

theorem exec_rtcGetd_silent : exec .rtcGetd s = .fault .noAnswer := by
  simp only [exec, execRtcGetd, readDate, memRead_silent _ _ _ hs]

theorem exec_rtcSett_silent (tm : Time) : exec (.rtcSett tm) s = .fault .noAnswer := by
  simp only [exec, execRtcSett, writeTime, memWrite_silent _ _ hs]

theorem exec_rtcSetd_silent (d : Date) : exec (.rtcSetd d) s = .fault .noAnswer := by
  have hs' : (s.packedYear d).replies = .silent :: rest := hs
  simp only [exec, execRtcSetd, writeDate, memWrite_silent _ _ hs']

theorem exec_tchPoll_silent : exec .tchPoll s = .fault .noAnswer := by
  simp only [exec, execTchPoll, readTouchCount, memRead_silent _ _ _ hs]

theorem exec_tchPoint_silent {n : Byte} (hn : n.toNat ≤ 3) : exec (.tchPoint n) s = .fault .noAnswer := by
  simp only [exec, execTchPoint, if_neg (Nat.not_lt.mpr hn), readTouchBlock, memRead_silent _ _ _ hs]

theorem exec_edTick_silent : exec .edTick s = .fault .noAnswer := by
  by_cases hm : s.mode = .run
  · simp only [exec_edTick_of_run hm, pull, readTime, memRead_silent _ _ _ hs]
  · simp only [exec_edTick_of_ne_run hm, push, writeTime, memWrite_silent _ _ hs]

theorem reclaimAndTransmit_silent (p : PulseParams) : reclaimAndTransmit p s = .fault .noAnswer := by
  cases hg : s.tg with
  | idle => simp only [reclaimAndTransmit, hg, transmit, ptStart_silent p hs]
  | active => simp only [reclaimAndTransmit, hg, ptStop_silent hs]

end Silent

/-- An operation that ends in `u` when its primitive is answered, and has no step when it is not, ends in `u` only. -/
theorem eq_of_next {s t u : State} {o : Host.Outcome State Fault Refusal} (ho : o = .next t)
    (hans : s.answers 1 → o = .next u) (hsil : ∀ rest, s.replies = .silent :: rest → o = .fault .noAnswer) :
    t = u := by
  rcases answers_one_or_silent s with h | ⟨rest, hs⟩
  · exact Host.Outcome.next.inj (ho.symm.trans (hans h))
  · cases ho.symm.trans (hsil rest hs)

/-! ### Both halves of a tick are answered, or it has no step (R190) -/

theorem answers_two_of_pull {s t : State} (h : pull s = .next t) : s.answers 2 := by
  unfold pull at h
  split at h
  · cases h
  · next r hr =>
    split at h
    · cases h
    · next r' hr' =>
      obtain ⟨hfirst, -, -, hafter⟩ := memRead_some hr
      obtain ⟨hsecond, -⟩ := memRead_some hr'
      rw [hafter] at hsecond
      exact answers_two_of_one hfirst hsecond

theorem answers_two_of_push {s t : State} (h : push s = .next t) : s.answers 2 := by
  unfold push at h
  split at h
  · cases h
  · next w hw =>
    split at h
    · cases h
    · next w' hw' =>
      obtain ⟨hfirst, -, hafter⟩ := memWrite_some hw
      obtain ⟨hsecond, -⟩ := memWrite_some hw'
      rw [hafter] at hsecond
      exact answers_two_of_one hfirst hsecond

/-- The state in which a pull ends (`pull_eq`). -/
def State.afterPull (s : State) : State :=
  { s.afterGett.afterGetd with
    wt := if (s.drawAt 0).ok then timeUnpack (s.atAccess .rtc 0).timeRegs else s.wt
    wd := if (s.drawAt 1).ok then dateUnpack (s.afterGett.atAccess .rtc 0).dateRegs else s.wd
    response := if (s.drawAt 0).ok && (s.drawAt 1).ok then some (.ok 0 0) else some (.error .busError) }

/-- The state in which a push ends (`push_eq`). -/
def State.afterPush (s : State) : State :=
  { s.afterSett.afterSetd with
    response := if (s.drawAt 0).ok && (s.drawAt 1).ok then some (.ok 0 0) else some (.error .busError) }

theorem eq_afterPull {s t : State} (h : pull s = .next t) : t = s.afterPull :=
  Host.Outcome.next.inj (h.symm.trans (pull_eq (answers_two_of_pull h)))

theorem eq_afterPush {s t : State} (h : push s = .next t) : t = s.afterPush :=
  Host.Outcome.next.inj (h.symm.trans (push_eq (answers_two_of_push h)))

/-! ### What the ends of an operation leave as they were -/

section Frames

variable (s : State)

@[simp] theorem atAccess_frame (sp : Space) (k : Nat) :
    (s.atAccess sp k).mode = s.mode ∧ (s.atAccess sp k).wt = s.wt ∧ (s.atAccess sp k).wd = s.wd ∧
      (s.atAccess sp k).tg = s.tg ∧ (s.atAccess sp k).cfg = s.cfg ∧ (s.atAccess sp k).commands = s.commands := by
  simp [State.atAccess]

@[simp] theorem afterRead_frame (addr n : Nat) (r : Response) :
    (s.afterRead addr n r).mode = s.mode ∧ (s.afterRead addr n r).wt = s.wt ∧ (s.afterRead addr n r).wd = s.wd ∧
      (s.afterRead addr n r).tg = s.tg ∧ (s.afterRead addr n r).cfg = s.cfg ∧
      (s.afterRead addr n r).commands = s.commands := by
  simp [State.afterRead]

@[simp] theorem afterTouchRead_frame (addr n : Nat) (r : Response) :
    (s.afterTouchRead addr n r).mode = s.mode ∧ (s.afterTouchRead addr n r).wt = s.wt ∧
      (s.afterTouchRead addr n r).wd = s.wd ∧ (s.afterTouchRead addr n r).tg = s.tg ∧
      (s.afterTouchRead addr n r).cfg = s.cfg ∧ (s.afterTouchRead addr n r).commands = s.commands := by
  simp [State.afterTouchRead]

/-- Beside `afterWrite_mode`, `afterWrite_wt` and `afterWrite_wd`. -/
@[simp] theorem afterWrite_frame (addr : Nat) (data : List Byte) :
    (s.afterWrite addr data).tg = s.tg ∧ (s.afterWrite addr data).cfg = s.cfg ∧
      (s.afterWrite addr data).commands = s.commands := by
  simp [State.afterWrite]

@[simp] theorem afterStop_frame :
    s.afterStop.mode = s.mode ∧ s.afterStop.wt = s.wt ∧ s.afterStop.wd = s.wd ∧ s.afterStop.cfg = s.cfg ∧
      s.afterStop.commands = s.commands := by
  simp [State.afterStop]

@[simp] theorem afterStart_frame (p : PulseParams) :
    (s.afterStart p).mode = s.mode ∧ (s.afterStart p).wt = s.wt ∧ (s.afterStart p).wd = s.wd ∧
      (s.afterStart p).cfg = s.cfg ∧ (s.afterStart p).commands = s.commands := by
  simp [State.afterStart]

/-- A pull writes the working value and nothing else that the host can see, but its response. -/
@[simp] theorem afterPull_frame :
    s.afterPull.mode = s.mode ∧ s.afterPull.tg = s.tg ∧ s.afterPull.cfg = s.cfg ∧
      s.afterPull.commands = s.commands := by
  simp [State.afterPull, State.afterGetd, State.afterGett]

@[simp] theorem afterPush_frame :
    s.afterPush.mode = s.mode ∧ s.afterPush.wt = s.wt ∧ s.afterPush.wd = s.wd ∧ s.afterPush.tg = s.tg ∧
      s.afterPush.cfg = s.cfg ∧ s.afterPush.commands = s.commands := by
  simp [State.afterPush, State.afterSetd, State.afterSett]

theorem afterPull_trace : ∃ answer answer', s.afterPull.trace
    = s.trace ++ [.memRead .rtc 0x02 3 answer, .memRead .rtc 0x05 4 answer'] := by
  have hgett : ∃ answer, s.afterGett.trace = s.trace ++ [.memRead .rtc 0x02 3 answer] := ⟨_, rfl⟩
  have hgetd : ∃ answer', s.afterGett.afterGetd.trace = s.afterGett.trace ++ [.memRead .rtc 0x05 4 answer'] :=
    ⟨_, rfl⟩
  obtain ⟨answer, hgett⟩ := hgett
  obtain ⟨answer', hgetd⟩ := hgetd
  exact ⟨answer, answer', by simp [State.afterPull, hgetd, hgett]⟩

theorem afterPush_trace : ∃ (buf : Buf3) (buf' : Buf4) (ok ok' : Bool), s.afterPush.trace
    = s.trace ++ [.memWrite .rtc 0x02 buf.bytes ok, .memWrite .rtc 0x05 buf'.bytes ok'] := by
  have hsett : ∃ ok, s.afterSett.trace = s.trace ++ [.memWrite .rtc 0x02 (timePack s.wt).bytes ok] := ⟨_, rfl⟩
  have hsetd : ∃ buf' ok', s.afterSett.afterSetd.trace
      = s.afterSett.trace ++ [.memWrite .rtc 0x05 (Buf4.bytes buf') ok'] := ⟨_, _, rfl⟩
  obtain ⟨ok, hsett⟩ := hsett
  obtain ⟨buf', ok', hsetd⟩ := hsetd
  exact ⟨timePack s.wt, buf', ok, ok', by simp [State.afterPush, hsetd, hsett]⟩

end Frames

/-! ### The states in which an operation can end -/

/-- The code that a response shows on the status port (60_exceptions.md R210). -/
def Response.code : Response → BitVec 4
  | .ok _ _ => 0
  | .error e => errorCode e

/-- `Ends i s t`: from `s`, operation `i` may end in `t`. One constructor for each shape an operation can have: no
primitive, one access to a device, a turn of the editor, one of the three ways in which TONE.PLAY uses the channel, or
a tick. The first four also say which operations have their shape, by the rows of 20_memory.md R61 and the status
codes of 60_exceptions.md R210. -/
inductive Ends (i : Instr) (s : State) : State → Prop
  | respond (r : Response) (n : Nat) (hrow : busAccesses s i = []) (hcode : r.code ∈ statuses i) :
      Ends i s { s with response := some r, yearDraws := n }
  | rtcRead (addr n : Nat) (r0 r1 : Word32) (hrow : busAccesses s i = [⟨false, .rtc, addr, n⟩])
      (hcodes : statuses i = [0, 1]) : Ends i s (s.afterRead addr n (.ok r0 r1))
  | rtcWrite (addr : Nat) (data : List Byte) (n : Nat) (hrow : busAccesses s i = [⟨true, .rtc, addr, data.length⟩])
      (hfits : addr + data.length ≤ 256) (hcodes : statuses i = [0, 1]) :
      Ends i s (State.afterWrite addr data { s with yearDraws := n })
  | touchRead (addr n : Nat) (r0 r1 : Word32) (hrow : busAccesses s i = [⟨false, .tch, addr, n⟩])
      (hcodes : [0, 1] ⊆ statuses i) : Ends i s (s.afterTouchRead addr n (.ok r0 r1))
  | click (hi : i = .edClick) : Ends i s { s with mode := nextMode s.mode, response := some (.ok 0 0) }
  | edit (delta : Byte) (hi : i = .edEdit delta) : Ends i s { s with
      wt := editTime s.mode delta.toInt s.wt
      wd := editDate s.mode delta.toInt s.wd
      response := some (.ok 0 0) }
  | started (q : ToneRequest) (p : PulseParams) (hi : i = .tonePlay q) (hg : s.tg = .idle) :
      Ends i s (s.afterStart p)
  | stopFailed (q : ToneRequest) (hi : i = .tonePlay q) (hg : s.tg = .active) :
      Ends i s (s.afterStop.raise .stopError)
  | restarted (q : ToneRequest) (p : PulseParams) (hi : i = .tonePlay q) (hg : s.tg = .active) :
      Ends i s (s.afterStop.afterStart p)
  | pulled (hi : i = .edTick) (hm : s.mode = .run) : Ends i s s.afterPull
  | pushed (hi : i = .edTick) (hm : s.mode ≠ .run) : Ends i s s.afterPush

/-- An operation without a primitive answers the one state that its arm writes down. -/
theorem ends_of_complete {i : Instr} {s t : State} {r0 r1 : Word32} (h : exec i s = .next t)
    (he : exec i s = .next (s.complete r0 r1)) (hrow : busAccesses s i = []) (hcode : 0 ∈ statuses i) :
    Ends i s t := by
  obtain rfl : t = s.complete r0 r1 := Host.Outcome.next.inj (h.symm.trans he)
  exact .respond (.ok r0 r1) s.yearDraws hrow hcode

theorem ends_of_tchNorm {buf : Buf4} {s t : State} (h : exec (.tchNorm buf) s = .next t) :
    Ends (.tchNorm buf) s t :=
  ends_of_complete h rfl rfl (by simp [statuses])

theorem ends_of_toneCalc {q : ToneRequest} {s t : State} (h : exec (.toneCalc q) s = .next t) :
    Ends (.toneCalc q) s t := by
  cases hc : toneCalc s.cfg q with
  | freqTooLow =>
    rw [exec_toneCalc_of_freqTooLow hc] at h
    cases h
    exact .respond (.error .freqTooLow) s.yearDraws rfl (by simp [Response.code, errorCode, statuses])
  | durationTooLongForFreq =>
    rw [exec_toneCalc_of_durationTooLongForFreq hc] at h
    cases h
    exact .respond (.error .durationTooLongForFreq) s.yearDraws rfl
      (by simp [Response.code, errorCode, statuses])
  | params p => exact ends_of_complete h (exec_toneCalc_of_params hc) rfl (by simp [statuses])

theorem ends_of_tchPoint {n : Byte} {s t : State} (h : exec (.tchPoint n) s = .next t) : Ends (.tchPoint n) s t := by
  by_cases hn : n.toNat ≤ 3
  · obtain rfl := eq_of_next h (exec_tchPoint_of_le hn) fun _ hs => exec_tchPoint_silent hs hn
    exact .touchRead _ 4 _ _ (if_pos hn) (by simp [statuses])
  · rw [exec_tchPoint_of_gt (Nat.not_le.mp hn)] at h
    cases h
    exact .respond (.error .badPointIndex) s.yearDraws (if_neg hn)
      (by simp [Response.code, errorCode, statuses])

theorem ends_of_reclaimAndTransmit {q : ToneRequest} {p : PulseParams} {s t : State}
    (h : reclaimAndTransmit p s = .next t) : Ends (.tonePlay q) s t := by
  cases hg : s.tg with
  | idle =>
    rw [reclaimAndTransmit_of_idle hg] at h
    obtain ⟨-, rfl⟩ := transmit_next h
    exact .started q p rfl hg
  | active =>
    rcases answers_one_or_silent s with hans | ⟨rest, hs⟩
    · cases hok : (s.drawAt 0).ok with
      | false =>
        rw [reclaimAndTransmit_of_stop_failed hg hans hok] at h
        cases h
        exact .stopFailed q rfl hg
      | true =>
        rw [reclaimAndTransmit_of_stopped hg hans hok] at h
        obtain ⟨-, rfl⟩ := transmit_next h
        exact .restarted q p rfl hg
    · rw [reclaimAndTransmit_silent hs p] at h
      cases h

theorem ends_of_tonePlay {q : ToneRequest} {s t : State} (h : exec (.tonePlay q) s = .next t) :
    Ends (.tonePlay q) s t := by
  cases hc : toneCalc s.cfg q with
  | freqTooLow =>
    rw [exec_tonePlay_of_freqTooLow hc] at h
    cases h
    exact .respond (.error .freqTooLow) s.yearDraws rfl (by simp [Response.code, errorCode, statuses])
  | durationTooLongForFreq =>
    rw [exec_tonePlay_of_durationTooLongForFreq hc] at h
    cases h
    exact .respond (.error .durationTooLongForFreq) s.yearDraws rfl
      (by simp [Response.code, errorCode, statuses])
  | params p =>
    rw [exec_tonePlay_of_params hc] at h
    exact ends_of_reclaimAndTransmit h

theorem ends_of_edTick {s t : State} (h : exec .edTick s = .next t) : Ends .edTick s t := by
  by_cases hm : s.mode = .run
  · rw [exec_edTick_of_run hm] at h
    exact eq_afterPull h ▸ .pulled rfl hm
  · rw [exec_edTick_of_ne_run hm] at h
    exact eq_afterPush h ▸ .pushed rfl hm

/-- Everything an operation can do, once. -/
theorem ends_of_exec {i : Instr} {s t : State} (h : exec i s = .next t) : Ends i s t := by
  cases i with
  | bcdDec v => exact ends_of_complete h (exec_bcdDec v s) rfl (by simp [statuses])
  | bcdEnc v => exact ends_of_complete h (exec_bcdEnc v s) rfl (by simp [statuses])
  | rtcTunpk buf => exact ends_of_complete h (exec_rtcTunpk buf s) rfl (by simp [statuses])
  | rtcTpack tm => exact ends_of_complete h (exec_rtcTpack tm s) rfl (by simp [statuses])
  | rtcDunpk buf => exact ends_of_complete h (exec_rtcDunpk buf s) rfl (by simp [statuses])
  | rtcDpack d =>
    rw [exec_rtcDpack] at h
    cases h
    exact .respond (.ok _ 0) _ rfl (by simp [Response.code, statuses])
  | rtcGett =>
    obtain rfl := eq_of_next h exec_rtcGett fun _ => exec_rtcGett_silent
    exact .rtcRead 0x02 3 _ _ rfl rfl
  | rtcSett tm =>
    obtain rfl := eq_of_next h (exec_rtcSett tm) fun _ hs => exec_rtcSett_silent hs tm
    exact .rtcWrite 0x02 _ s.yearDraws rfl (by simp) rfl
  | rtcGetd =>
    obtain rfl := eq_of_next h exec_rtcGetd fun _ => exec_rtcGetd_silent
    exact .rtcRead 0x05 4 _ _ rfl rfl
  | rtcSetd d =>
    obtain rfl := eq_of_next h (exec_rtcSetd d) fun _ hs => exec_rtcSetd_silent hs d
    exact .rtcWrite 0x05 _ _ rfl (by simp) rfl
  | tchNorm buf => exact ends_of_tchNorm h
  | tchPoll =>
    obtain rfl := eq_of_next h exec_tchPoll fun _ => exec_tchPoll_silent
    exact .touchRead _ 1 _ _ rfl (by simp [statuses])
  | tchPoint n => exact ends_of_tchPoint h
  | toneCalc q => exact ends_of_toneCalc h
  | tonePlay q => exact ends_of_tonePlay h
  | edClick =>
    rw [exec_edClick] at h
    cases h
    exact .click rfl
  | edEdit delta =>
    rw [exec_edEdit] at h
    cases h
    exact .edit delta rfl
  | edTick => exact ends_of_edTick h

end Sys2Proof.Machine
end

section
/-! PROOFS. The codec and the RTC register decoder beyond single results: the codec's round trips (40_bcd_codec.md
R102, R103), the ranges and the exact domains of packing and unpacking (41_rtc_decoder.md R111, R115, R119), the free
byte of a negative year (R118), and a value written and read back on a quiescent store (R123, R127). -/

namespace Sys2Proof.Machine

/-! ### The codec as numbers (40_bcd_codec.md R102, R103) -/

theorem bcdDecode_bcdEncode_toNat (v : Byte) : (bcdDecode (bcdEncode v)).toNat = v.toNat % 160 := by
  have hv := v.isLt
  rw [bcdDecode_toNat, bcdEncode_toNat, bcdValue, bcdDigits]
  omega

theorem bcdEncode_bcdDecode_eq_iff (b : Byte) : bcdEncode (bcdDecode b) = b ↔ b.toNat % 16 ≤ 9 := by
  have hb := b.isLt
  rw [← BitVec.toNat_inj, bcdEncode_toNat, bcdDecode_toNat, bcdDigits, bcdValue]
  omega

theorem bcdDecode_bcdEncode_of_le {v : Byte} (hv : v.toNat ≤ 159) : bcdDecode (bcdEncode v) = v := by
  rw [← BitVec.toNat_inj, bcdDecode_bcdEncode_toNat, Nat.mod_eq_of_lt (by omega)]

theorem bcdDecode_bcdEncode_of_ge {v : Byte} (hv : 160 ≤ v.toNat) : bcdDecode (bcdEncode v) = v - 160 := by
  have hlt := v.isLt
  have hsub : (v - 160).toNat = v.toNat - 160 := BitVec.toNat_sub_of_le (BitVec.le_def.mpr hv)
  rw [← BitVec.toNat_inj, bcdDecode_bcdEncode_toNat, hsub]
  omega

/-- The bytes of two decimal nibbles are what 0..99 encode to: each comes from its own decoding. -/
theorem exists_bcdEncode_eq_iff (b : Byte) :
    (∃ v : Byte, v.toNat ≤ 99 ∧ bcdEncode v = b) ↔ b.toNat / 16 ≤ 9 ∧ b.toNat % 16 ≤ 9 := by
  constructor
  · rintro ⟨v, hv, rfl⟩
    rw [bcdEncode_toNat, bcdDigits, Nat.mod_eq_of_lt (by omega)]
    omega
  · rintro ⟨hhigh, hlow⟩
    refine ⟨bcdDecode b, ?_, (bcdEncode_bcdDecode_eq_iff b).mpr hlow⟩
    rw [bcdDecode_toNat, bcdValue]
    omega

theorem bcdEncode_low_nibble_le (v : Byte) : (bcdEncode v).toNat % 16 ≤ 9 := by
  rw [bcdEncode_toNat, bcdDigits]
  omega

/-! ### What unpacking can deliver (41_rtc_decoder.md R111, R115) -/

/-- A byte cut to `k` sixteenths: the high nibble is below `k`, the low one at most 15. -/
theorem bcdDecode_cut_le {x v : Byte} {k : Nat} (hk : 0 < k) (hx : x.toNat = v.toNat % (16 * k)) :
    (bcdDecode x).toNat ≤ 10 * k + 5 := by
  have hlt : v.toNat % (16 * k) < 16 * k := Nat.mod_lt _ (by omega)
  rw [bcdDecode_toNat, hx, bcdValue]
  omega

theorem timeUnpack_range (buf : Buf3) :
    (timeUnpack buf).seconds.toNat ≤ 85 ∧ (timeUnpack buf).minutes.toNat ≤ 85 ∧ (timeUnpack buf).hours.toNat ≤ 45 :=
  ⟨bcdDecode_cut_le (k := 8) (by decide) (and_0x7F_toNat _), bcdDecode_cut_le (k := 8) (by decide) (and_0x7F_toNat _),
    bcdDecode_cut_le (k := 4) (by decide) (and_0x3F_toNat _)⟩

theorem dateUnpack_range (buf : Buf4) :
    (dateUnpack buf).day.toNat ≤ 45 ∧ (dateUnpack buf).weekday.toNat ≤ 15 ∧ (dateUnpack buf).month.toNat ≤ 25 :=
  ⟨bcdDecode_cut_le (k := 4) (by decide) (and_0x3F_toNat _), bcdDecode_cut_le (k := 1) (by decide) (and_0x0F_toNat _),
    bcdDecode_cut_le (k := 2) (by decide) (and_0x1F_toNat _)⟩

theorem bcdDecode_le (b : Byte) : (bcdDecode b).toNat ≤ 165 := by
  have hb := b.isLt
  rw [bcdDecode_toNat, bcdValue]
  omega

/-- The year is the century's first and the decoded byte. -/
theorem dateUnpack_year_toInt (buf : Buf4) :
    (dateUnpack buf).year.toInt = (century buf.b2 + (bcdDecode buf.b3).toNat : Nat) := by
  have hbyte := bcdDecode_le buf.b3
  have hcentury : century buf.b2 ≤ 2000 := by rw [century_eq]; split <;> omega
  have hyear : (dateUnpack buf).year.toNat = century buf.b2 + (bcdDecode buf.b3).toNat := by
    rw [dateUnpack, BitVec.toNat_ofNat, Nat.mod_eq_of_lt (by omega)]
  rw [toInt_eq_toNat_of_lt (by omega), hyear]

theorem dateUnpack_year_range (buf : Buf4) :
    1900 ≤ (dateUnpack buf).year.toInt ∧ (dateUnpack buf).year.toInt ≤ 2165 := by
  have hbyte := bcdDecode_le buf.b3
  rw [dateUnpack_year_toInt, century_eq]
  split <;> omega

/-! ### The exact domains of the round trips (41_rtc_decoder.md R119) -/

/-- An encoding cut to `k` sixteenths: the high nibble is below `k`, the low one decimal. -/
theorem bcdDecode_bcdEncode_cut_lt {x v : Byte} {k : Nat} (hk : 0 < k)
    (hx : x.toNat = (bcdEncode v).toNat % (16 * k)) : (bcdDecode x).toNat < 10 * k := by
  have hlt : (bcdEncode v).toNat % (16 * k) < 16 * k := Nat.mod_lt _ (by omega)
  have hlow : (bcdEncode v).toNat % (16 * k) % 16 = (bcdEncode v).toNat % 16 := Nat.mod_mul_right_mod ..
  have hdecimal := bcdEncode_low_nibble_le v
  rw [bcdDecode_toNat, hx, bcdValue]
  omega

theorem timeUnpack_timePack_range (t : Time) :
    (timeUnpack (timePack t)).seconds.toNat < 80 ∧ (timeUnpack (timePack t)).minutes.toNat < 80 ∧
      (timeUnpack (timePack t)).hours.toNat < 40 :=
  ⟨bcdDecode_bcdEncode_cut_lt (k := 8) (by decide) (and_0x7F_toNat _),
    bcdDecode_bcdEncode_cut_lt (k := 8) (by decide) (and_0x7F_toNat _),
    bcdDecode_bcdEncode_cut_lt (k := 4) (by decide) (and_0x3F_toNat _)⟩

theorem dateUnpack_datePack_range (d : Date) (free : Byte) :
    (dateUnpack (datePack d free)).day.toNat < 40 ∧ (dateUnpack (datePack d free)).weekday.toNat < 10 ∧
      (dateUnpack (datePack d free)).month.toNat < 20 := by
  refine ⟨bcdDecode_bcdEncode_cut_lt (k := 4) (v := d.day) (by decide) ?day,
    bcdDecode_bcdEncode_cut_lt (k := 1) (v := d.weekday) (by decide) ?weekday,
    bcdDecode_bcdEncode_cut_lt (k := 2) (v := d.month) (by decide) ?month⟩
  case day => rw [datePack, BitVec.and_assoc, BitVec.and_self, and_0x3F_toNat]
  case weekday => rw [datePack, BitVec.and_assoc, BitVec.and_self, and_0x0F_toNat]
  case month => rw [datePack_b2_and_0x1F, and_0x1F_toNat]

/-- A year that is not negative stores two decimal digits, so the packed date names no year beyond 2099. -/
theorem dateUnpack_datePack_year_le {d : Date} (hd : 0 ≤ d.year.toInt) (free : Byte) :
    (dateUnpack (datePack d free)).year.toInt ≤ 2099 := by
  have hy : d.year.toNat < 32768 := by have := BitVec.toInt_eq_toNat_cond d.year; have := d.year.isLt; omega
  have hdigits : (bcdDecode (datePack d free).b3).toNat = d.year.toNat % 100 := bcdDecode_yearByte_toNat hy free
  rw [dateUnpack_year_toInt, century_datePack, hdigits]
  split <;> omega

theorem timeUnpack_timePack_eq_iff (t : Time) : timeUnpack (timePack t) = t ↔
    t.seconds.toNat ≤ 79 ∧ t.minutes.toNat ≤ 79 ∧ t.hours.toNat ≤ 39 := by
  constructor
  · intro h
    have hrange := timeUnpack_timePack_range t
    rw [h] at hrange
    omega
  · rintro ⟨hs, hm, hh⟩
    exact timeUnpack_timePack hs hm hh

theorem dateUnpack_datePack_eq_iff (d : Date) (free : Byte) : dateUnpack (datePack d free) = d ↔
    d.day.toNat ≤ 39 ∧ d.weekday.toNat ≤ 9 ∧ d.month.toNat ≤ 19 ∧ 1900 ≤ d.year.toInt ∧ d.year.toInt ≤ 2099 := by
  constructor
  · intro h
    have hrange := dateUnpack_datePack_range d free
    have hlow := (dateUnpack_year_range (datePack d free)).1
    rw [h] at hrange hlow
    have hhigh := dateUnpack_datePack_year_le (Int.le_trans (by decide) hlow) free
    rw [h] at hhigh
    omega
  · rintro ⟨hday, hweekday, hmonth, h1900, h2099⟩
    exact dateUnpack_datePack free hday hweekday hmonth h1900 h2099

/-! ### Written and read back (41_rtc_decoder.md R123, R127) -/

theorem answers_afterWrite (addr : Nat) (data : List Byte) {s : State} (h : s.answers 2) :
    (s.afterWrite addr data).answers 1 :=
  State.answers_drawn (k := 1) h

theorem afterWrite_drawAt_zero (addr : Nat) (data : List Byte) (s : State) :
    (s.afterWrite addr data).drawAt 0 = s.drawAt 1 :=
  State.drawn_drawAt 0 1 s

/-- A read of the time after a write, on a quiescent store. -/
theorem exec_rtcGett_afterWrite (addr : Nat) (data : List Byte) {s : State} (hq : s.quiescent 2) :
    ∃ t, exec .rtcGett (s.afterWrite addr data) = .next t ∧
      t.response = some (.ok (packTime (timeUnpack (s.afterWrite addr data).timeRegs)) 0) := by
  obtain ⟨h, hquiet⟩ := hq
  obtain ⟨hok, hchanges⟩ := hquiet 1 (by decide)
  rw [← afterWrite_drawAt_zero addr data] at hok hchanges
  refine ⟨_, exec_rtcGett (answers_afterWrite addr data h), ?_⟩
  rw [atAccess_of_changes_eq_nil hchanges]
  exact if_pos hok

/-- A read of the date after a write, on a quiescent store. -/
theorem exec_rtcGetd_afterWrite (addr : Nat) (data : List Byte) {s : State} (hq : s.quiescent 2) :
    ∃ t, exec .rtcGetd (s.afterWrite addr data) = .next t ∧
      t.response = some (.ok (packDate (dateUnpack (s.afterWrite addr data).dateRegs))
        (packYear (dateUnpack (s.afterWrite addr data).dateRegs))) := by
  obtain ⟨h, hquiet⟩ := hq
  obtain ⟨hok, hchanges⟩ := hquiet 1 (by decide)
  rw [← afterWrite_drawAt_zero addr data] at hok hchanges
  refine ⟨_, exec_rtcGetd (answers_afterWrite addr data h), ?_⟩
  rw [atAccess_of_changes_eq_nil hchanges]
  exact if_pos hok

end Sys2Proof.Machine

namespace Sys2Proof.Proofs

open Sys2Proof.Machine

/-- Settles O9: what comes back is always in the domain, and in the domain it is what was packed. -/
theorem roundTripsExactlyOnTheirDomain : Obligations.RoundTripsExactlyOnTheirDomain :=
  ⟨timeUnpack_timePack_eq_iff, dateUnpack_datePack_eq_iff⟩

/-- Settles O10: each mask bounds the high nibble of its byte, and the year is a century and a byte. -/
theorem unpackedValuesStayInTheirRanges : Obligations.UnpackedValuesStayInTheirRanges := by
  refine ⟨timeUnpack_range, fun buf => ?_⟩
  obtain ⟨hday, hweekday, hmonth⟩ := dateUnpack_range buf
  exact ⟨hday, hweekday, hmonth, dateUnpack_year_range buf⟩

/-- Settles O15: the read finds the registers as the write left them. -/
theorem gettReturnsWhatSettWrote : Obligations.GettReturnsWhatSettWrote := by
  intro tm s hq
  obtain ⟨hok, -⟩ := hq.2 0 (by decide)
  have hregs : (s.afterWrite 0x02 (timePack tm).bytes).timeRegs = timePack tm :=
    timeRegs_afterWrite_of_ok (timePack tm) hok
  obtain ⟨t, ht, hresponse⟩ := exec_rtcGett_afterWrite 0x02 (timePack tm).bytes hq
  rw [hregs] at hresponse
  refine ⟨_, t, exec_rtcSett tm (State.answers_mono hq.1 (by decide)), hregs, ht, hresponse, fun hs hm hh => ?_⟩
  rw [hresponse, timeUnpack_timePack hs hm hh]

/-- Settles O16: as O15, from the state in which the packing has taken its free byte. -/
theorem getdReturnsWhatSetdWrote : Obligations.GetdReturnsWhatSetdWrote := by
  intro d s hq
  obtain ⟨hok, -⟩ := hq.2 0 (by decide)
  have hregs : ((s.packedYear d).afterWrite 0x05 (datePack d (freeYearByte s)).bytes).dateRegs
      = datePack d (freeYearByte s) := dateRegs_afterWrite_of_ok (s := s.packedYear d) _ hok
  obtain ⟨t, ht, hresponse⟩ :=
    exec_rtcGetd_afterWrite (s := s.packedYear d) 0x05 (datePack d (freeYearByte s)).bytes hq
  rw [hregs] at hresponse
  refine ⟨_, t, freeYearByte s, exec_rtcSetd d (State.answers_mono hq.1 (by decide)), hregs, ht, hresponse,
    fun hday hweekday hmonth h1900 h2099 => ?_⟩
  rw [hresponse, dateUnpack_datePack _ hday hweekday hmonth h1900 h2099]
  rfl

/-- Settles O3: both compositions of the codec as numbers. -/
theorem bcdRoundTripAndImage : Obligations.BcdRoundTripAndImage := by
  refine ⟨fun _ => bcdDecode_bcdEncode_of_le, fun _ => bcdDecode_bcdEncode_of_ge, bcdEncode_bcdDecode_eq_iff,
    fun v w hv hw h => ?injective, exists_bcdEncode_eq_iff, bcdEncode_low_nibble_le⟩
  case injective =>
    calc v
      _ = bcdDecode (bcdEncode v) := (bcdDecode_bcdEncode_of_le (by omega)).symm
      _ = bcdDecode (bcdEncode w) := by rw [h]
      _ = w := bcdDecode_bcdEncode_of_le (by omega)

/-- Settles O8: a negative year is below 2000, and its own byte is the free one. -/
theorem dpackOfNegativeYearLeavesOneByteFree : Obligations.DpackOfNegativeYearLeavesOneByteFree := by
  intro d s hneg
  refine ⟨freeYearByte s, (s.packedYear d).yearDraws, ?_⟩
  have hbelow : d.year.toInt < 2000 := by omega
  rw [exec_rtcDpack, packR4_datePack, yearByte, if_pos hneg, if_pos hbelow]
  rfl

end Sys2Proof.Proofs
end

section
/-! PROOFS. The whole machine: what each shape of an operation's end (`Ends`) leaves in the registers, on the status
port, in the record of primitives and in the register lists; then a step as one command, and the invariants it keeps. -/

namespace Sys2Proof.Machine

/-! ### Which operation writes which register (10_state.md R35) -/

section Ends

variable {i : Instr} {s t : State}

theorem Ends.cfg (h : Ends i s t) : t.cfg = s.cfg := by cases h <;> simp

theorem Ends.commands (h : Ends i s t) : t.commands = s.commands := by cases h <;> simp

theorem Ends.mode (h : Ends i s t) : t.mode = s.mode ∨ i = .edClick := by
  cases h with
  | click hi => exact .inr hi
  | _ => exact .inl (by simp)

theorem Ends.tg (h : Ends i s t) : t.tg = s.tg ∨ ∃ q, i = .tonePlay q := by
  cases h with
  | started q p hi | stopFailed q hi | restarted q p hi => exact .inr ⟨q, hi⟩
  | _ => exact .inl (by simp)

theorem Ends.working (h : Ends i s t) :
    t.wt = s.wt ∧ t.wd = s.wd ∨ (∃ delta, i = .edEdit delta) ∨ i = .edTick ∧ s.mode = .run := by
  cases h with
  | edit delta hi => exact .inr (.inl ⟨delta, hi⟩)
  | pulled hi hm => exact .inr (.inr ⟨hi, hm⟩)
  | _ => exact .inl (by simp)

/-! ### What an operation reports (10_state.md R31, 60_exceptions.md R210) -/

theorem statusPort_of_response {r : Response} (h : s.response = some r) : statusPort s = some r.code := by
  rw [statusPort, h]
  cases r <;> rfl

theorem errorCode_ne_zero (e : ErrorCode) : errorCode e ≠ 0 := by
  cases e <;> decide

theorem resultPorts_iff_code_eq_zero {r : Response} (h : s.response = some r) :
    (∃ x, resultPorts s = some x) ↔ r.code = 0 := by
  rw [resultPorts, h]
  cases r with
  | ok r0 r1 => exact ⟨fun _ => rfl, fun _ => ⟨(r0, r1), rfl⟩⟩
  | error e => exact ⟨fun hx => absurd hx (by simp), fun hcode => absurd hcode (errorCode_ne_zero e)⟩

/-- The response of an operation that may succeed or fail in one way is one of the two. -/
theorem code_mem_of_response_ite {c : Bool} {r0 r1 : Word32} {e : ErrorCode}
    (h : t.response = if c then some (.ok r0 r1) else some (.error e)) (hok : 0 ∈ statuses i)
    (herr : errorCode e ∈ statuses i) : ∃ r, t.response = some r ∧ r.code ∈ statuses i := by
  cases c with
  | true => exact ⟨_, h, hok⟩
  | false => exact ⟨_, h, herr⟩

theorem Ends.response (h : Ends i s t) : ∃ r, t.response = some r ∧ r.code ∈ statuses i := by
  cases h with
  | respond r n hrow hcode => exact ⟨r, rfl, hcode⟩
  | rtcRead addr n r0 r1 hrow hcodes =>
    exact code_mem_of_response_ite rfl (by simp [hcodes]) (by simp [hcodes, errorCode])
  | rtcWrite addr data n hrow hfits hcodes =>
    exact code_mem_of_response_ite rfl (by simp [hcodes]) (by simp [hcodes, errorCode])
  | touchRead addr n r0 r1 hrow hcodes =>
    exact code_mem_of_response_ite rfl (hcodes (by simp)) (hcodes (by simp [errorCode]))
  | click hi | edit delta hi => exact ⟨.ok 0 0, rfl, by simp [hi, Response.code, statuses]⟩
  | started q p hi | restarted q p hi =>
    exact code_mem_of_response_ite rfl (by simp [hi, statuses]) (by simp [hi, statuses, errorCode])
  | stopFailed q hi => exact ⟨.error .stopError, rfl, by simp [hi, Response.code, errorCode, statuses]⟩
  | pulled hi | pushed hi =>
    exact code_mem_of_response_ite rfl (by simp [hi, statuses]) (by simp [hi, statuses, errorCode])

/-! ### The primitives an operation issues (20_memory.md R61) -/

/-- The primitives that an operation adds to the record, on the bus and at the channel. -/
theorem Ends.trace (h : Ends i s t) :
    ∃ xs, t.trace = s.trace ++ xs ∧ xs.filterMap Access.bus = busAccesses s i ∧
      ((∀ q, i ≠ .tonePlay q) → xs.length = (busAccesses s i).length) ∧ channelAfter s.tg xs = some t.tg := by
  cases h with
  | respond r n hrow => exact ⟨[], (List.append_nil _).symm, hrow.symm, fun _ => by rw [hrow]; rfl, rfl⟩
  | rtcRead addr n r0 r1 hrow => exact ⟨[_], rfl, hrow.symm, fun _ => by rw [hrow]; rfl, rfl⟩
  | rtcWrite addr data n hrow => exact ⟨[_], rfl, hrow.symm, fun _ => by rw [hrow]; rfl, rfl⟩
  | touchRead addr n r0 r1 hrow => exact ⟨[_], rfl, hrow.symm, fun _ => by rw [hrow]; rfl, rfl⟩
  | click hi | edit delta hi => subst hi; exact ⟨[], (List.append_nil _).symm, rfl, fun _ => rfl, rfl⟩
  | started q p hi hg =>
    subst hi
    exact ⟨[.ptStart p (s.drawAt 0).ok], rfl, rfl, fun hne => absurd rfl (hne q), by rw [hg]; rfl⟩
  | stopFailed q hi hg =>
    subst hi
    exact ⟨[.ptStop (s.drawAt 0).ok], rfl, rfl, fun hne => absurd rfl (hne q), by rw [hg]; rfl⟩
  | restarted q p hi hg =>
    subst hi
    exact ⟨[.ptStop (s.drawAt 0).ok, .ptStart p (s.afterStop.drawAt 0).ok], List.append_assoc _ [_] [_], rfl,
      fun hne => absurd rfl (hne q), by rw [hg]; rfl⟩
  | pulled hi hm =>
    subst hi
    have hrows : busAccesses s .edTick = [⟨false, .rtc, 0x02, 3⟩, ⟨false, .rtc, 0x05, 4⟩] := if_pos hm
    obtain ⟨answer, answer', htrace⟩ := afterPull_trace s
    exact ⟨_, htrace, hrows.symm, fun _ => by rw [hrows]; rfl, by simp [channelAfter, channelStep]⟩
  | pushed hi hm =>
    subst hi
    have hrows : busAccesses s .edTick = [⟨true, .rtc, 0x02, 3⟩, ⟨true, .rtc, 0x05, 4⟩] := if_neg hm
    obtain ⟨buf, buf', ok, ok', htrace⟩ := afterPush_trace s
    exact ⟨_, htrace, hrows.symm, fun _ => by rw [hrows]; rfl, by simp [channelAfter, channelStep]⟩

theorem channelAfter_append (c : ToneState) (xs ys : List Access) :
    channelAfter c (xs ++ ys) = (channelAfter c xs).bind fun c' => channelAfter c' ys := by
  induction xs generalizing c with
  | nil => rfl
  | cons x xs ih =>
    simp only [List.cons_append, channelAfter]
    cases channelStep c x with
    | none => rfl
    | some c' => exact ih c'

/-- The added primitives carry the channel on from where the record had left it. -/
theorem Ends.channelOwned (h : Ends i s t) (hs : s.channelOwned) : t.channelOwned := by
  obtain ⟨xs, htrace, -, -, hchannel⟩ := h.trace
  rw [State.channelOwned, htrace, channelAfter_append, hs]
  exact hchannel

/-! ### The register lists (20_memory.md R50) -/

theorem afterRead_regsCanonical (addr n : Nat) (r : Response) (hs : s.regsCanonical) :
    (s.afterRead addr n r).regsCanonical :=
  ⟨Memory.change_wf hs.1 _, hs.2⟩

theorem afterTouchRead_regsCanonical (addr n : Nat) (r : Response) (hs : s.regsCanonical) :
    (s.afterTouchRead addr n r).regsCanonical :=
  ⟨hs.1, Memory.change_wf hs.2 _⟩

theorem afterWrite_regsCanonical {addr : Nat} {data : List Byte} (hfits : addr + data.length ≤ 256)
    (hs : s.regsCanonical) : (s.afterWrite addr data).regsCanonical :=
  ⟨Memory.store_wf _ data 0 addr (Memory.change_wf hs.1 _) hfits, hs.2⟩

theorem Ends.regsCanonical (h : Ends i s t) (hs : s.regsCanonical) : t.regsCanonical := by
  cases h with
  | rtcRead addr n r0 r1 => exact afterRead_regsCanonical addr n _ hs
  | rtcWrite addr data n hrow hfits => exact afterWrite_regsCanonical (s := { s with yearDraws := n }) hfits hs
  | touchRead addr n r0 r1 => exact afterTouchRead_regsCanonical addr n _ hs
  | pulled => 
    have hgett : s.afterGett.regsCanonical := afterRead_regsCanonical _ _ _ hs
    have hgetd : s.afterGett.afterGetd.regsCanonical := afterRead_regsCanonical _ _ _ hgett
    exact hgetd
  | pushed =>
    have hsett : s.afterSett.regsCanonical := afterWrite_regsCanonical (by simp) hs
    have hsetd : s.afterSett.afterSetd.regsCanonical :=
      afterWrite_regsCanonical (s := s.afterSett.packedYear s.afterSett.wd) (by simp) hsett
    exact hsetd
  | respond | click | edit | started | stopFailed | restarted => exact hs

/-! ### The working year (41_rtc_decoder.md R118) -/

/-- Only the year's own mode touches the year, and a wrap stays at 0 or more. -/
theorem editDate_year_nonneg (m : Mode) (delta : Int) {d : Date} (hd : 0 ≤ d.year.toInt) :
    0 ≤ (editDate m delta d).year.toInt := by
  cases m with
  | editYear =>
    rw [show (editDate .editYear delta d).year = wrapYear d.year delta 3000 from rfl,
      wrapYear_toInt _ _ (by decide) (by decide)]
    exact (wrap_range _ _ (by decide)).1
  | run | editHours | editMinutes | editDay | editMonth => exact hd

theorem Ends.yearNonneg (h : Ends i s t) (hs : s.yearNonneg) : t.yearNonneg := by
  cases h with
  | edit delta => exact editDate_year_nonneg s.mode delta.toInt hs
  | pulled =>
    simp only [State.yearNonneg, State.afterPull]
    split
    · exact Int.le_trans (by decide) (dateUnpack_year_range _).1
    · exact hs
  | _ => exact hs

end Ends

/-! ### Every operation ends when the primitives answer (60_exceptions.md R216) -/

theorem reclaimAndTransmit_ends (p : PulseParams) {s : State} (h : s.answers 2) :
    ∃ t, reclaimAndTransmit p s = .next t := by
  have hfirst : s.answers 1 := State.answers_mono h (by decide)
  cases hg : s.tg with
  | idle => exact ⟨_, (reclaimAndTransmit_of_idle hg).trans (transmit_eq hfirst)⟩
  | active =>
    cases hok : (s.drawAt 0).ok with
    | false => exact ⟨_, reclaimAndTransmit_of_stop_failed hg hfirst hok⟩
    | true => exact ⟨_, (reclaimAndTransmit_of_stopped hg hfirst hok).trans (transmit_eq (afterStop_answers h))⟩

theorem exec_tonePlay_ends (q : ToneRequest) {s : State} (h : s.answers 2) : ∃ t, exec (.tonePlay q) s = .next t := by
  cases hc : toneCalc s.cfg q with
  | freqTooLow => exact ⟨_, exec_tonePlay_of_freqTooLow hc⟩
  | durationTooLongForFreq => exact ⟨_, exec_tonePlay_of_durationTooLongForFreq hc⟩
  | params p =>
    rw [exec_tonePlay_of_params hc]
    exact reclaimAndTransmit_ends p h

theorem exec_tchPoint_ends (n : Byte) {s : State} (h : s.answers 1) : ∃ t, exec (.tchPoint n) s = .next t := by
  by_cases hn : n.toNat ≤ 3
  · exact ⟨_, exec_tchPoint_of_le hn h⟩
  · exact ⟨_, exec_tchPoint_of_gt (Nat.not_le.mp hn) s⟩

theorem exec_edTick_ends {s : State} (h : s.answers 2) : ∃ t, exec .edTick s = .next t := by
  by_cases hm : s.mode = .run
  · exact ⟨_, (exec_edTick_of_run hm).trans (pull_eq h)⟩
  · exact ⟨_, (exec_edTick_of_ne_run hm).trans (push_eq h)⟩

theorem exec_ends (i : Instr) {s : State} (h : s.answers 2) : ∃ t, exec i s = .next t := by
  have hfirst : s.answers 1 := State.answers_mono h (by decide)
  cases i with
  | rtcGett => exact ⟨_, exec_rtcGett hfirst⟩
  | rtcSett tm => exact ⟨_, exec_rtcSett tm hfirst⟩
  | rtcGetd => exact ⟨_, exec_rtcGetd hfirst⟩
  | rtcSetd d => exact ⟨_, exec_rtcSetd d hfirst⟩
  | tchPoll => exact ⟨_, exec_tchPoll hfirst⟩
  | tchPoint n => exact exec_tchPoint_ends n hfirst
  | tonePlay q => exact exec_tonePlay_ends q h
  | edTick => exact exec_edTick_ends h
  | bcdDec | bcdEnc | rtcTunpk | rtcTpack | rtcDunpk | rtcDpack | tchNorm | toneCalc | edClick | edEdit =>
    exact ⟨_, rfl⟩

/-! ### A step (30_encoding.md R80) -/

theorem step_of_no_command {s : State} (hc : s.commands = []) : step s = .next s := by
  simp only [step, fetchCommand, hc]

/-- Everything a step can do: wait, perform the first command presented, or reject it. -/
theorem step_cases {s t : State} (h : step s = .next t) :
    s.commands = [] ∧ t = s ∨
    ∃ c rest, s.commands = c :: rest ∧
      ((∃ i, Ends i { s with commands := rest } t) ∨ t = State.raise .illegalOp { s with commands := rest }) := by
  cases hc : s.commands with
  | nil => exact .inl ⟨rfl, Host.Outcome.next.inj (h.symm.trans (step_of_no_command hc))⟩
  | cons c rest =>
    refine .inr ⟨c, rest, rfl, ?_⟩
    cases hd : decode c with
    | ok i => exact .inl ⟨i, ends_of_exec ((step_of_decode_ok hc hd).symm.trans h)⟩
    | error r => exact .inr (Host.Outcome.next.inj (h.symm.trans (step_of_decode_error hc hd)))

/-- A step keeps what every operation keeps, if neither the command list nor the response has a part in it. -/
theorem step_keeps {I : State → Prop} {s t : State} (hends : ∀ {i u v}, Ends i u v → I u → I v)
    (hframe : ∀ u rest r, I u → I { u with commands := rest, response := r }) (hs : I s) (h : step s = .next t) :
    I t := by
  rcases step_cases h with ⟨-, rfl⟩ | ⟨c, rest, -, ⟨i, he⟩ | rfl⟩
  · exact hs
  · exact hends he (hframe s rest s.response hs)
  · exact hframe s rest (some (.error .illegalOp)) hs

end Sys2Proof.Machine

namespace Sys2Proof.Proofs

open Sys2Proof.Machine

/-- Settles O25: every primitive an operation issues is legal on the channel as it stands (`Ends.trace`). -/
theorem everyStepKeepsOneOwnerOfTheChannel : Obligations.EveryStepKeepsOneOwnerOfTheChannel := by
  intro s t hs h
  exact step_keeps (I := State.channelOwned) Ends.channelOwned (fun _ _ _ hu => hu) hs h

/-- Settles O32: a date that was read names a year from 1900 on, and an edited year is the result of a wrap. -/
theorem everyStepKeepsTheYearNonnegative : Obligations.EveryStepKeepsTheYearNonnegative := by
  intro s t hs h
  exact step_keeps (I := State.yearNonneg) Ends.yearNonneg (fun _ _ _ hu => hu) hs h

/-- Settles O44: a burst and a device's own changes keep the canonical form, at 8-bit addresses. -/
theorem everyStepKeepsTheRegisterListsCanonical : Obligations.EveryStepKeepsTheRegisterListsCanonical := by
  intro s t hs h
  exact step_keeps (I := State.regsCanonical) Ends.regsCanonical (fun _ _ _ hu => hu) hs h

/-- Settles O34: an operation's response shows a code of its row (`Ends.response`), and only OK carries results. -/
theorem everyOperationEndsWithAnAllowedStatus : Obligations.EveryOperationEndsWithAnAllowedStatus := by
  refine ⟨fun i s t h => ?_, fun s r0 r1 h => ?_, fun s => ?_⟩
  · obtain ⟨r, hr, hcode⟩ := (ends_of_exec h).response
    exact ⟨r.code, hcode, statusPort_of_response hr, resultPorts_iff_code_eq_zero hr⟩
  · exact ⟨statusPort_of_response h, by rw [resultPorts, h]⟩
  · have hshow (e : ErrorCode) (h : s.response = some (.error e)) :
        statusPort s = some (errorCode e) ∧ resultPorts s = none :=
      ⟨statusPort_of_response h, by rw [resultPorts, h]⟩
    exact ⟨hshow _, hshow _, hshow _, hshow _, hshow _, hshow _, hshow _⟩

/-- Settles O35: with both replies there each arm answers a state, and a silent primitive leaves its arm without one. -/
theorem operationsEndUnlessThePrimitivesStaySilent : Obligations.OperationsEndUnlessThePrimitivesStaySilent := by
  refine ⟨fun i s h => ?_, fun s rest hs => ?_⟩
  · exact exec_ends i h
  · exact ⟨exec_rtcGett_silent hs, exec_rtcSett_silent hs, exec_rtcGetd_silent hs, exec_rtcSetd_silent hs,
      exec_tchPoll_silent hs, exec_edTick_silent hs, fun n hn => exec_tchPoint_silent hs hn,
      fun q p hc => (exec_tonePlay_of_params hc).trans (reclaimAndTransmit_silent hs p)⟩

/-- Settles O36: the frame of each shape of an operation's end. -/
theorem onlyTheListedOperationsWriteState : Obligations.OnlyTheListedOperationsWriteState := by
  intro i s t h
  have he := ends_of_exec h
  refine ⟨he.mode.resolve_left, fun hne => ?_, fun hne => ?_, he.tg.resolve_left, he.cfg, he.commands⟩
  · exact he.working.resolve_left fun ⟨hwt, _⟩ => hne hwt
  · exact he.working.resolve_left fun ⟨_, hwd⟩ => hne hwd

/-- Settles O37: the primitives of each shape of an operation's end. -/
theorem busTrafficIsTheEightRows : Obligations.BusTrafficIsTheEightRows := by
  intro i s t h
  obtain ⟨xs, htrace, hrows, hlength, -⟩ := (ends_of_exec h).trace
  exact ⟨xs, htrace, hrows, hlength⟩

/-- Settles O50: a command taken is off the list, and the record only grows at its end. -/
theorem stepTakesOneCommandAndExtendsTheTrace : Obligations.StepTakesOneCommandAndExtendsTheTrace := by
  intro s t h
  rcases step_cases h with ⟨hc, rfl⟩ | ⟨c, rest, hc, ⟨i, he⟩ | rfl⟩
  · exact ⟨by rw [hc]; rfl, List.prefix_rfl⟩
  · obtain ⟨xs, htrace, -⟩ := he.trace
    exact ⟨by rw [he.commands, hc]; rfl, ⟨xs, htrace.symm⟩⟩
  · exact ⟨by rw [hc]; rfl, List.prefix_rfl⟩

/-- Settles O39: no operation writes a configuration input (`Ends.cfg`). -/
theorem everyStepKeepsTheConfigurationInputs : Obligations.EveryStepKeepsTheConfigurationInputs := by
  intro s t h
  exact step_keeps (I := fun u => u.cfg = s.cfg) (fun he hu => he.cfg.trans hu) (fun _ _ _ hu => hu) rfl h

/-- Settles O48: the command is fetched, decoded and performed. -/
theorem stepRunsTheDecodedOperation : Obligations.StepRunsTheDecodedOperation := by
  intro c rest i s hc hi
  exact step_of_decode_ok hc hi

/-- Settles O49: nothing is fetched. -/
theorem noCommandNoChange : Obligations.NoCommandNoChange := by
  intro s hc
  exact step_of_no_command hc

end Sys2Proof.Proofs
end

section
/-! PROOFS. What an operation's answer depends on, and what it cannot lose: the operations that use no primitive
(10_state.md R35), TCH.POINT's independence of the block's own registers (42_touch_normalizer.md R147, R149), the
width of the pulse parameters (43_tone_generator.md R160), the device registers (20_memory.md R63) and reset
(70_reset_and_hazards.md R241 to R245). -/

namespace Sys2Proof.Machine

/-! ### Operations without a primitive (10_state.md R35) -/

/-- Two runs of an operation that, under the inputs they share, only writes the response `r`. -/
theorem agree_of_response {i : Instr} {r : Response} {s1 s2 t1 t2 : State}
    (he : ∀ s, s.cfg = s1.cfg → exec i s = .next { s with response := some r }) (hcfg : s1.cfg = s2.cfg)
    (h1 : exec i s1 = .next t1) (h2 : exec i s2 = .next t2) :
    t1.response = t2.response ∧ t1.trace = s1.trace ∧ t1.rtcRegs = s1.rtcRegs ∧ t1.tchRegs = s1.tchRegs := by
  obtain rfl := Host.Outcome.next.inj ((he s1 rfl).symm.trans h1)
  obtain rfl := Host.Outcome.next.inj ((he s2 hcfg.symm).symm.trans h2)
  exact ⟨rfl, rfl, rfl, rfl⟩

theorem toNat_lt_of_nonneg {y : Word16} (hy : 0 ≤ y.toInt) : y.toNat < 32768 := by
  have := BitVec.toInt_eq_toNat_cond y
  have := y.isLt
  omega

theorem exec_tchNorm_of_cfg (buf : Buf4) {s : State} {cfg : ConfigInputs} (hs : s.cfg = cfg) :
    exec (.tchNorm buf) s = .next (s.complete
      (packHalves (touchNorm cfg.rotation buf).1 (touchNorm cfg.rotation buf).2) 0) := by
  subst hs
  rfl

theorem exec_toneCalc_of_cfg (q : ToneRequest) (cfg : ConfigInputs) :
    ∃ r, ∀ s : State, s.cfg = cfg → exec (.toneCalc q) s = .next { s with response := some r } := by
  cases hc : toneCalc cfg q with
  | freqTooLow => exact ⟨_, fun s hs => exec_toneCalc_of_freqTooLow (hs ▸ hc)⟩
  | durationTooLongForFreq => exact ⟨_, fun s hs => exec_toneCalc_of_durationTooLongForFreq (hs ▸ hc)⟩
  | params p => exact ⟨_, fun s hs => exec_toneCalc_of_params (hs ▸ hc)⟩

/-! ### What a read of a coordinate block depends on (42_touch_normalizer.md R147, R149) -/

section Touch

variable {s1 s2 : State}

theorem drawAt_congr (hreplies : s1.replies = s2.replies) (hdraws : s1.draws = s2.draws) (k : Nat) :
    s1.drawAt k = s2.drawAt k := by
  simp only [State.drawAt, hreplies, hdraws]

theorem touchRegs_congr (hcfg : s1.cfg = s2.cfg) (hregs : s1.tchRegs = s2.tchRegs) (n : Nat) :
    s1.touchRegs n = s2.touchRegs n := by
  have hbyte := State.deviceByte_congr (sp := .tch) hregs
  simp only [State.touchRegs, hcfg, hbyte]

theorem touchRegs_atAccess_congr (hcfg : s1.cfg = s2.cfg) (hregs : s1.tchRegs = s2.tchRegs)
    (hreplies : s1.replies = s2.replies) (hdraws : s1.draws = s2.draws) (n : Nat) :
    (s1.atAccess .tch 0).touchRegs n = (s2.atAccess .tch 0).touchRegs n := by
  refine touchRegs_congr (by simp [hcfg]) ?_ n
  simp only [State.atAccess, State.deviceActs_tch_tchRegs, drawAt_congr hreplies hdraws, hregs]

theorem exec_tchPoint_response {n : Byte} (hn : n.toNat ≤ 3) {s t : State} (h : exec (.tchPoint n) s = .next t) :
    t.response = if (s.drawAt 0).ok then
        some (.ok (packHalves (touchNorm s.cfg.rotation ((s.atAccess .tch 0).touchRegs n.toNat)).1
          (touchNorm s.cfg.rotation ((s.atAccess .tch 0).touchRegs n.toNat)).2) (packByte n))
      else some (.error .busError) := by
  obtain rfl := eq_of_next h (exec_tchPoint_of_le hn) fun _ hs => exec_tchPoint_silent hs hn
  rfl

end Touch

/-! ### The pulse parameters (43_tone_generator.md R160) -/

section Pulse

variable {cfg : ConfigInputs} {q : ToneRequest} {p : PulseParams}

theorem toneCalc_params (h : toneCalc cfg q = .params p) :
    freqFloor cfg < q.freqHz.toNat ∧ repeatCount q ≤ cfg.maxLoopCount.toNat ∧ p = pulseParams cfg q := by
  by_cases hlow : q.freqHz.toNat ≤ freqFloor cfg
  · cases (toneCalc_of_le_freqFloor hlow).symm.trans h
  by_cases hlong : cfg.maxLoopCount.toNat < repeatCount q
  · cases (toneCalc_of_maxLoopCount_lt hlow hlong).symm.trans h
  · exact ⟨Nat.not_le.mp hlow, Nat.not_lt.mp hlong,
      (ToneCalc.params.inj ((toneCalc_of_accepted hlow hlong).symm.trans h)).symm⟩

/-- The bound of step 3 is itself a 32-bit number. -/
theorem pulseParams_repeatCount_toNat (hlong : repeatCount q ≤ cfg.maxLoopCount.toNat) :
    (pulseParams cfg q).repeatCount.toNat = repeatCount q := by
  have hmax := cfg.maxLoopCount.isLt
  exact (BitVec.toNat_ofNat _ 32).trans (Nat.mod_eq_of_lt (by omega))

theorem pulseParams_of_wavelength_zero (hw : wavelength cfg q = 0) :
    (pulseParams cfg q).high = 0 ∧ (pulseParams cfg q).low = 0 := by
  rw [pulseParams, hw]
  exact ⟨rfl, rfl⟩

theorem pulseParams_of_wavelength_one (hw : wavelength cfg q = 1) :
    (pulseParams cfg q).high = 0 ∧ (pulseParams cfg q).low = 1 := by
  rw [pulseParams, hw]
  exact ⟨rfl, rfl⟩

end Pulse

/-! ### The device registers (20_memory.md R63) -/

theorem deviceByte_atAccess_of_unnamed (s : State) (sp : Space) (k a : Nat)
    (h : ∀ c ∈ (s.drawAt k).changes, c.1.toNat ≠ a) : (s.atAccess sp k).deviceByte sp a = s.deviceByte sp a := by
  have hget := Memory.get_change_outside (s.drawAt k).changes (s.regs sp) a h
  cases sp <;> exact congrArg (Option.getD · _) hget

end Sys2Proof.Machine

namespace Sys2Proof.Proofs

open Sys2Proof.Machine

/-- Settles O21: the one read behind the answer sees the touch registers, the configuration and the next draw. -/
theorem pointIgnoresEverythingButTheDevice : Obligations.PointIgnoresEverythingButTheDevice := by
  intro n s1 s2 t1 t2 hcfg hregs hreplies hdraws h1 h2
  by_cases hn : n.toNat ≤ 3
  · rw [exec_tchPoint_response hn h1, exec_tchPoint_response hn h2, hcfg, drawAt_congr hreplies hdraws,
      touchRegs_atAccess_congr hcfg hregs hreplies hdraws]
  · rw [exec_tchPoint_of_gt (Nat.not_le.mp hn)] at h1 h2
    cases h1
    cases h2
    rfl

/-- Settles O23: step 1 bounds the wavelength, step 3 the repeat count, and halving splits the wavelength exactly. -/
theorem pulseParametersFitTheirFields : Obligations.PulseParametersFitTheirFields := by
  intro cfg q p h
  obtain ⟨hlow, hlong, rfl⟩ := toneCalc_params h
  have hw : wavelength cfg q < 65536 := wavelength_lt_of_freqFloor_lt (Nat.not_le.mpr hlow)
  have hhigh := pulseParams_high_toNat hw
  have hlo := pulseParams_low_toNat hw
  have hrepeat := pulseParams_repeatCount_toNat hlong
  refine ⟨hhigh, ?sum, Nat.le_of_lt_succ hw, by omega, by omega, hrepeat, by omega, fun habove => ?above,
    fun hequal => ?equal⟩
  case sum =>
    rw [hhigh, hlo]
    exact Nat.add_sub_of_le (Nat.div_le_self _ _)
  case above => exact pulseParams_of_wavelength_zero (Nat.div_eq_of_lt habove)
  case equal =>
    refine pulseParams_of_wavelength_one ?_
    rw [wavelength, hequal]
    exact Nat.div_self (Nat.zero_lt_of_lt hlow)

/-- Settles O38: each of the eight only writes a response, made from its operands and the configuration inputs. -/
theorem pureOperationsDependOnOperandsAndInputsOnly :
    Obligations.PureOperationsDependOnOperandsAndInputsOnly := by
  intro i s1 s2 t1 t2 hi hcfg h1 h2
  rcases hi with ⟨v, rfl⟩ | ⟨v, rfl⟩ | ⟨buf, rfl⟩ | ⟨tm, rfl⟩ | ⟨buf, rfl⟩ | ⟨d, rfl, hy⟩ | ⟨buf, rfl⟩ | ⟨q, rfl⟩
  · exact agree_of_response (fun s _ => exec_bcdDec v s) hcfg h1 h2
  · exact agree_of_response (fun s _ => exec_bcdEnc v s) hcfg h1 h2
  · exact agree_of_response (fun s _ => exec_rtcTunpk buf s) hcfg h1 h2
  · exact agree_of_response (fun s _ => exec_rtcTpack tm s) hcfg h1 h2
  · exact agree_of_response (fun s _ => exec_rtcDunpk buf s) hcfg h1 h2
  · exact agree_of_response (fun s _ => exec_rtcDpack_of_lt (toNat_lt_of_nonneg hy) s) hcfg h1 h2
  · exact agree_of_response (fun s hs => exec_tchNorm_of_cfg buf hs) hcfg h1 h2
  · obtain ⟨r, hr⟩ := exec_toneCalc_of_cfg q s1.cfg
    exact agree_of_response hr hcfg h1 h2

/-- Settles O43: `Memory.get_set` and `Memory.get_change_outside`; an access to one space leaves the other's list. -/
theorem registersReadWhatWasLastStored : Obligations.RegistersReadWhatWasLastStored :=
  ⟨Memory.get_set, deviceByte_atAccess_of_unnamed,
    fun s k a => ⟨State.deviceByte_congr (s := s) (t := s.atAccess .rtc k) rfl a,
      State.deviceByte_congr (s := s) (t := s.atAccess .tch k) rfl a⟩⟩

/-- Settles O41: each field as `State.reset` writes it down. -/
theorem resetValues : Obligations.ResetValues :=
  ⟨rfl, rfl, rfl, rfl, rfl, rfl, rfl⟩

/-- Settles O42: an empty record leaves the channel Idle, and an empty register list is canonical. -/
theorem resetMeetsTheInvariants : Obligations.ResetMeetsTheInvariants :=
  ⟨rfl, ⟨reset_regsCanonical_lists, reset_regsCanonical_lists⟩, rfl, rfl⟩

end Sys2Proof.Proofs
end

section
/-! PROOFS. The decoder and the encoder, 30_encoding.md R81, R82 and R85: what each operand layout reads back from
what it packs, and which bits it packs of what it reads; then the opcode map in both directions. -/

namespace Sys2Proof.Machine

/-! ### A layout reads back what it packs (R81) -/

theorem portByte_zero_portBytes (b0 b1 b2 b3 : Byte) : portByte 0 (portBytes b0 b1 b2 b3) = b0 := by
  have := b0.isLt
  rw [← BitVec.toNat_inj, portByte_toNat, byteOf, portBytes_toNat]
  omega

theorem portByte_one_portBytes (b0 b1 b2 b3 : Byte) : portByte 1 (portBytes b0 b1 b2 b3) = b1 := by
  have := b0.isLt; have := b1.isLt
  rw [← BitVec.toNat_inj, portByte_toNat, byteOf, portBytes_toNat]
  omega

theorem portByte_two_portBytes (b0 b1 b2 b3 : Byte) : portByte 2 (portBytes b0 b1 b2 b3) = b2 := by
  have := b0.isLt; have := b1.isLt; have := b2.isLt
  rw [← BitVec.toNat_inj, portByte_toNat, byteOf, portBytes_toNat]
  omega

theorem portByte_three_portBytes (b0 b1 b2 b3 : Byte) : portByte 3 (portBytes b0 b1 b2 b3) = b3 := by
  have := b0.isLt; have := b1.isLt; have := b2.isLt; have := b3.isLt
  rw [← BitVec.toNat_inj, portByte_toNat, byteOf, portBytes_toNat]
  omega

theorem layoutR3_portBytes (buf : Buf3) (b3 : Byte) : layoutR3 (portBytes buf.b0 buf.b1 buf.b2 b3) = buf := by
  rw [layoutR3, portByte_zero_portBytes, portByte_one_portBytes, portByte_two_portBytes]

theorem layoutR4_portBytes (buf : Buf4) : layoutR4 (portBytes buf.b0 buf.b1 buf.b2 buf.b3) = buf := by
  rw [layoutR4, portByte_zero_portBytes, portByte_one_portBytes, portByte_two_portBytes, portByte_three_portBytes]

theorem layoutT_portBytes (t : Time) (b3 : Byte) : layoutT (portBytes t.seconds t.minutes t.hours b3) = t := by
  rw [layoutT, portByte_zero_portBytes, portByte_one_portBytes, portByte_two_portBytes]

theorem layoutD_portBytes (d : Date) (b3 : Byte) :
    layoutD (portBytes d.day d.weekday d.month b3) ((0 : Word16) ++ d.year) = d := by
  have hyear : ((0 : Word16) ++ d.year : BitVec 32).extractLsb' 0 16 = d.year := BitVec.extractLsb'_append_eq_right
  rw [layoutD, portByte_zero_portBytes, portByte_one_portBytes, portByte_two_portBytes, hyear]

/-- The opcode selects the layout that the encoder packed with. -/
theorem decode_encode (i : Instr) : decode (encode i) = .ok i := by
  cases i with
  | bcdDec | bcdEnc | tchPoint | edEdit => simp [decode, encode, opcode, operandA, portByte_zero_portBytes]
  | rtcTunpk => simp [decode, encode, opcode, operandA, layoutR3_portBytes]
  | rtcTpack | rtcSett => simp [decode, encode, opcode, operandA, layoutT_portBytes]
  | rtcDunpk | tchNorm => simp [decode, encode, opcode, operandA, layoutR4_portBytes]
  | rtcDpack | rtcSetd => simp only [decode, encode, opcode, operandA, operandB, layoutD_portBytes]; rfl
  | rtcGett | rtcGetd | tchPoll | toneCalc | tonePlay | edClick | edTick => rfl

/-! ### A layout packs the bits it names of what it reads (R81, R85) -/

theorem portBytes_one_eq_and (a : Word32) : portBytes (portByte 0 a) 0 0 0 = a &&& 0x000000FF := by
  have hmask : (a &&& 0x000000FF).toNat = a.toNat % 2 ^ 8 := Nat.and_two_pow_sub_one_eq_mod _ 8
  rw [← BitVec.toNat_inj, portBytes_toNat, portByte_toNat, byteOf, hmask]
  simp

theorem portBytes_three_eq_and (a : Word32) :
    portBytes (portByte 0 a) (portByte 1 a) (portByte 2 a) 0 = a &&& 0x00FFFFFF := by
  have hmask : (a &&& 0x00FFFFFF).toNat = a.toNat % 2 ^ 24 := Nat.and_two_pow_sub_one_eq_mod _ 24
  rw [← BitVec.toNat_inj, portBytes_toNat, portByte_toNat, portByte_toNat, portByte_toNat, hmask]
  simp only [byteOf, BitVec.ofNat_eq_ofNat, BitVec.toNat_ofNat]
  omega

theorem portBytes_four_eq (a : Word32) :
    portBytes (portByte 0 a) (portByte 1 a) (portByte 2 a) (portByte 3 a) = a := by
  have ha := a.isLt
  rw [← BitVec.toNat_inj, portBytes_toNat, portByte_toNat, portByte_toNat, portByte_toNat, portByte_toNat]
  simp only [byteOf]
  omega

theorem and_allNamed (w : Word32) : w &&& 0xFFFFFFFF = w := BitVec.and_allOnes

theorem year_eq_and (b : Word32) : (0 : Word16) ++ b.extractLsb' 0 16 = b &&& 0x0000FFFF := by
  have hmask : (b &&& 0x0000FFFF).toNat = b.toNat % 2 ^ 16 := Nat.and_two_pow_sub_one_eq_mod _ 16
  rw [← BitVec.toNat_inj, append_toNat, BitVec.extractLsb'_toNat, hmask]
  simp

/-- Packing what was decoded clears the bits that the format does not name, and no other. -/
theorem operands_of_decode_ok {c : Command} {i : Instr} (h : decode c = .ok i) :
    operandA i = c.a &&& namedA i ∧ operandB i = c.b &&& namedB i := by
  have hop := op_of_decode_ok h
  obtain ⟨op, a, b⟩ := c
  cases i with
  | bcdDec | bcdEnc | tchPoint | edEdit =>
    simp only [opcode] at hop
    subst hop
    cases h
    exact ⟨portBytes_one_eq_and a, BitVec.and_zero.symm⟩
  | rtcTunpk | rtcTpack | rtcSett =>
    simp only [opcode] at hop
    subst hop
    cases h
    exact ⟨portBytes_three_eq_and a, BitVec.and_zero.symm⟩
  | rtcDunpk | tchNorm =>
    simp only [opcode] at hop
    subst hop
    cases h
    exact ⟨(portBytes_four_eq a).trans (and_allNamed a).symm, BitVec.and_zero.symm⟩
  | rtcDpack | rtcSetd =>
    simp only [opcode] at hop
    subst hop
    cases h
    exact ⟨portBytes_three_eq_and a, year_eq_and b⟩
  | toneCalc | tonePlay =>
    simp only [opcode] at hop
    subst hop
    cases h
    exact ⟨(and_allNamed a).symm, (and_allNamed b).symm⟩
  | rtcGett | rtcGetd | tchPoll | edClick | edTick => exact ⟨BitVec.and_zero.symm, BitVec.and_zero.symm⟩

/-! ### The opcode map (R82) -/

theorem decode_ok_of_mem_opcodes {c : Command} (h : c.op ∈ opcodes) : ∃ i, decode c = .ok i := by
  obtain ⟨op, a, b⟩ := c
  simp only at h
  fin_cases h <;> exact ⟨_, rfl⟩

end Sys2Proof.Machine

namespace Sys2Proof.Proofs

open Sys2Proof.Machine

/-- Settles O45: the layouts in both directions (`decode_encode`, `operands_of_decode_ok`). -/
theorem decodeAndEncodeAgree : Obligations.DecodeAndEncodeAgree := by
  refine ⟨decode_encode, fun c i h => ?_⟩
  obtain ⟨ha, hb⟩ := operands_of_decode_ok h
  rw [encode, ← op_of_decode_ok h, ha, hb]

/-- Settles O46: what decodes has the opcode of its operation, and each of the 18 values selects its arm. -/
theorem decodingDependsOnTheOpcodeAlone : Obligations.DecodingDependsOnTheOpcodeAlone := by
  refine ⟨fun c => ⟨fun ⟨i, hi⟩ => ?listed, decode_ok_of_mem_opcodes⟩, fun c i h => (op_of_decode_ok h).symm,
    fun ⟨op, a, b⟩ => ?table⟩
  case listed =>
    rw [op_of_decode_ok hi]
    exact opcode_mem_opcodes i
  case table =>
    and_intros <;> rintro rfl <;> rfl

/-- Settles O47: each word's opcode, and the operand bits its layout names. -/
theorem sampleWordsDecode : Obligations.SampleWordsDecode :=
  ⟨rfl, rfl, rfl, rfl, rfl⟩

end Sys2Proof.Proofs
end
